-- ==== Sys2Proof/Word.lean ====
section
/-! DEFINITION. The word types of the model: bytes, the 32-bit values CPUID moves, the four output registers as one
record, and the numbers of leaves (spec/00_scope.md R10, R13). -/

namespace Sys2Proof

/-- One byte of the instruction stream or of a string. -/
abbrev Byte := BitVec 8

/-- A 32-bit value: EAX, EBX, ECX, EDX, a leaf number, a sub-leaf number (R10). -/
abbrev Word32 := BitVec 32

/-- A 64-bit value: RAX to RDX, an MSR, XCR0 (R21, R29, R30, R32). -/
abbrev Word64 := BitVec 64

/-- The four output values (EAX, EBX, ECX, EDX) of one leaf and sub-leaf (R8, R100). -/
structure Quad where
  eax : Word32 := 0
  ebx : Word32 := 0
  ecx : Word32 := 0
  edx : Word32 := 0
deriving DecidableEq, Repr, Inhabited

/-- The four zeros that an unsupported leaf or an invalid sub-leaf returns (R102, R104). -/
def Quad.zero : Quad := { eax := 0, ebx := 0, ecx := 0, edx := 0 }

end Sys2Proof
end

