-- ==== Sys2Proof/Machine/Descriptors.lean ====
section
/-! DEFINITION. Table 3-21: the encoding of leaf 2 descriptors (spec/41_leaves_00_03.md R161). -/

namespace Sys2Proof.Machine

/-- The Type column of Table 3-21, as printed (C13). -/
inductive DescriptorType where
  | general | tlb | cache | dtlb | stlb | prefetch
deriving DecidableEq, Repr, Inhabited

/-- One row of Table 3-21. -/
structure Descriptor where
  value : Byte
  type  : DescriptorType
  text  : String
deriving DecidableEq, Repr, Inhabited

/-- Table 3-21, values 00H to 46H. -/
def descriptorsA : List Descriptor :=
  [⟨0x00, .general, "Null descriptor, this byte contains no information."⟩,
   ⟨0x01, .tlb, "Instruction TLB: 4 KByte pages, 4-way set associative, 32 entries."⟩,
   ⟨0x02, .tlb, "Instruction TLB: 4 MByte pages, fully associative, 2 entries."⟩,
   ⟨0x03, .tlb, "Data TLB: 4 KByte pages, 4-way set associative, 64 entries."⟩,
   ⟨0x04, .tlb, "Data TLB: 4 MByte pages, 4-way set associative, 8 entries."⟩,
   ⟨0x05, .tlb, "Data TLB1: 4 MByte pages, 4-way set associative, 32 entries."⟩,
   ⟨0x06, .cache, "1st-level instruction cache: 8 KBytes, 4-way set associative, 32 byte line size."⟩,
   ⟨0x08, .cache, "1st-level instruction cache: 16 KBytes, 4-way set associative, 32 byte line size."⟩,
   ⟨0x09, .cache, "1st-level instruction cache: 32KBytes, 4-way set associative, 64 byte line size."⟩,
   ⟨0x0A, .cache, "1st-level data cache: 8 KBytes, 2-way set associative, 32 byte line size."⟩,
   ⟨0x0B, .tlb, "Instruction TLB: 4 MByte pages, 4-way set associative, 4 entries."⟩,
   ⟨0x0C, .cache, "1st-level data cache: 16 KBytes, 4-way set associative, 32 byte line size."⟩,
   ⟨0x0D, .cache, "1st-level data cache: 16 KBytes, 4-way set associative, 64 byte line size."⟩,
   ⟨0x0E, .cache, "1st-level data cache: 24 KBytes, 6-way set associative, 64 byte line size."⟩,
   ⟨0x1D, .cache, "2nd-level cache: 128 KBytes, 2-way set associative, 64 byte line size."⟩,
   ⟨0x21, .cache, "2nd-level cache: 256 KBytes, 8-way set associative, 64 byte line size."⟩,
   ⟨0x22, .cache, "3rd-level cache: 512 KBytes, 4-way set associative, 64 byte line size, 2 lines per sector."⟩,
   ⟨0x23, .cache, "3rd-level cache: 1 MBytes, 8-way set associative, 64 byte line size, 2 lines per sector."⟩,
   ⟨0x24, .cache, "2nd-level cache: 1 MBytes, 16-way set associative, 64 byte line size."⟩,
   ⟨0x25, .cache, "3rd-level cache: 2 MBytes, 8-way set associative, 64 byte line size, 2 lines per sector."⟩,
   ⟨0x29, .cache, "3rd-level cache: 4 MBytes, 8-way set associative, 64 byte line size, 2 lines per sector."⟩,
   ⟨0x2C, .cache, "1st-level data cache: 32 KBytes, 8-way set associative, 64 byte line size."⟩,
   ⟨0x30, .cache, "1st-level instruction cache: 32 KBytes, 8-way set associative, 64 byte line size."⟩,
   ⟨0x40, .cache, "No 2nd-level cache or, if processor contains a valid 2nd-level cache, no 3rd-level cache."⟩,
   ⟨0x41, .cache, "2nd-level cache: 128 KBytes, 4-way set associative, 32 byte line size."⟩,
   ⟨0x42, .cache, "2nd-level cache: 256 KBytes, 4-way set associative, 32 byte line size."⟩,
   ⟨0x43, .cache, "2nd-level cache: 512 KBytes, 4-way set associative, 32 byte line size."⟩,
   ⟨0x44, .cache, "2nd-level cache: 1 MByte, 4-way set associative, 32 byte line size."⟩,
   ⟨0x45, .cache, "2nd-level cache: 2 MByte, 4-way set associative, 32 byte line size."⟩,
   ⟨0x46, .cache, "3rd-level cache: 4 MByte, 4-way set associative, 64 byte line size."⟩]

/-- Table 3-21, values 47H to 6CH. -/
def descriptorsB : List Descriptor :=
  [⟨0x47, .cache, "3rd-level cache: 8 MByte, 8-way set associative, 64 byte line size."⟩,
   ⟨0x48, .cache, "2nd-level cache: 3MByte, 12-way set associative, 64 byte line size."⟩,
   ⟨0x49, .cache, "3rd-level cache: 4MB, 16-way set associative, 64-byte line size (Intel Xeon processor MP, Family 0FH, Model 06H); 2nd-level cache: 4 MByte, 16-way set associative, 64 byte line size."⟩,
   ⟨0x4A, .cache, "3rd-level cache: 6MByte, 12-way set associative, 64 byte line size."⟩,
   ⟨0x4B, .cache, "3rd-level cache: 8MByte, 16-way set associative, 64 byte line size."⟩,
   ⟨0x4C, .cache, "3rd-level cache: 12MByte, 12-way set associative, 64 byte line size."⟩,
   ⟨0x4D, .cache, "3rd-level cache: 16MByte, 16-way set associative, 64 byte line size."⟩,
   ⟨0x4E, .cache, "2nd-level cache: 6MByte, 24-way set associative, 64 byte line size."⟩,
   ⟨0x4F, .tlb, "Instruction TLB: 4 KByte pages, 32 entries."⟩,
   ⟨0x50, .tlb, "Instruction TLB: 4 KByte and 2-MByte or 4-MByte pages, 64 entries."⟩,
   ⟨0x51, .tlb, "Instruction TLB: 4 KByte and 2-MByte or 4-MByte pages, 128 entries."⟩,
   ⟨0x52, .tlb, "Instruction TLB: 4 KByte and 2-MByte or 4-MByte pages, 256 entries."⟩,
   ⟨0x55, .tlb, "Instruction TLB: 2-MByte or 4-MByte pages, fully associative, 7 entries."⟩,
   ⟨0x56, .tlb, "Data TLB0: 4 MByte pages, 4-way set associative, 16 entries."⟩,
   ⟨0x57, .tlb, "Data TLB0: 4 KByte pages, 4-way associative, 16 entries."⟩,
   ⟨0x59, .tlb, "Data TLB0: 4 KByte pages, fully associative, 16 entries."⟩,
   ⟨0x5A, .tlb, "Data TLB0: 2 MByte or 4 MByte pages, 4-way set associative, 32 entries."⟩,
   ⟨0x5B, .tlb, "Data TLB: 4 KByte and 4 MByte pages, 64 entries."⟩,
   ⟨0x5C, .tlb, "Data TLB: 4 KByte and 4 MByte pages, 128 entries."⟩,
   ⟨0x5D, .tlb, "Data TLB: 4 KByte and 4 MByte pages, 256 entries."⟩,
   ⟨0x60, .cache, "1st-level data cache: 16 KByte, 8-way set associative, 64 byte line size."⟩,
   ⟨0x61, .tlb, "Instruction TLB: 4 KByte pages, fully associative, 48 entries."⟩,
   ⟨0x63, .tlb, "Data TLB: 2 MByte or 4 MByte pages, 4-way set associative, 32 entries and a separate array with 1 GByte pages, 4-way set associative, 4 entries."⟩,
   ⟨0x64, .tlb, "Data TLB: 4 KByte pages, 4-way set associative, 512 entries."⟩,
   ⟨0x66, .cache, "1st-level data cache: 8 KByte, 4-way set associative, 64 byte line size."⟩,
   ⟨0x67, .cache, "1st-level data cache: 16 KByte, 4-way set associative, 64 byte line size."⟩,
   ⟨0x68, .cache, "1st-level data cache: 32 KByte, 4-way set associative, 64 byte line size."⟩,
   ⟨0x6A, .cache, "uTLB: 4 KByte pages, 8-way set associative, 64 entries."⟩,
   ⟨0x6B, .cache, "DTLB: 4 KByte pages, 8-way set associative, 256 entries."⟩,
   ⟨0x6C, .cache, "DTLB: 2M/4M pages, 8-way set associative, 128 entries."⟩]

/-- Table 3-21, values 6DH to C1H. -/
def descriptorsC : List Descriptor :=
  [⟨0x6D, .cache, "DTLB: 1 GByte pages, fully associative, 16 entries."⟩,
   ⟨0x70, .cache, "Trace cache: 12 K-μop, 8-way set associative."⟩,
   ⟨0x71, .cache, "Trace cache: 16 K-μop, 8-way set associative."⟩,
   ⟨0x72, .cache, "Trace cache: 32 K-μop, 8-way set associative."⟩,
   ⟨0x76, .tlb, "Instruction TLB: 2M/4M pages, fully associative, 8 entries."⟩,
   ⟨0x78, .cache, "2nd-level cache: 1 MByte, 4-way set associative, 64byte line size."⟩,
   ⟨0x79, .cache, "2nd-level cache: 128 KByte, 8-way set associative, 64 byte line size, 2 lines per sector."⟩,
   ⟨0x7A, .cache, "2nd-level cache: 256 KByte, 8-way set associative, 64 byte line size, 2 lines per sector."⟩,
   ⟨0x7B, .cache, "2nd-level cache: 512 KByte, 8-way set associative, 64 byte line size, 2 lines per sector."⟩,
   ⟨0x7C, .cache, "2nd-level cache: 1 MByte, 8-way set associative, 64 byte line size, 2 lines per sector."⟩,
   ⟨0x7D, .cache, "2nd-level cache: 2 MByte, 8-way set associative, 64byte line size."⟩,
   ⟨0x7F, .cache, "2nd-level cache: 512 KByte, 2-way set associative, 64-byte line size."⟩,
   ⟨0x80, .cache, "2nd-level cache: 512 KByte, 8-way set associative, 64-byte line size."⟩,
   ⟨0x82, .cache, "2nd-level cache: 256 KByte, 8-way set associative, 32 byte line size."⟩,
   ⟨0x83, .cache, "2nd-level cache: 512 KByte, 8-way set associative, 32 byte line size."⟩,
   ⟨0x84, .cache, "2nd-level cache: 1 MByte, 8-way set associative, 32 byte line size."⟩,
   ⟨0x85, .cache, "2nd-level cache: 2 MByte, 8-way set associative, 32 byte line size."⟩,
   ⟨0x86, .cache, "2nd-level cache: 512 KByte, 4-way set associative, 64 byte line size."⟩,
   ⟨0x87, .cache, "2nd-level cache: 1 MByte, 8-way set associative, 64 byte line size."⟩,
   ⟨0xA0, .dtlb, "DTLB: 4k pages, fully associative, 32 entries."⟩,
   ⟨0xB0, .tlb, "Instruction TLB: 4 KByte pages, 4-way set associative, 128 entries."⟩,
   ⟨0xB1, .tlb, "Instruction TLB: 2M pages, 4-way, 8 entries or 4M pages, 4-way, 4 entries."⟩,
   ⟨0xB2, .tlb, "Instruction TLB: 4KByte pages, 4-way set associative, 64 entries."⟩,
   ⟨0xB3, .tlb, "Data TLB: 4 KByte pages, 4-way set associative, 128 entries."⟩,
   ⟨0xB4, .tlb, "Data TLB1: 4 KByte pages, 4-way associative, 256 entries."⟩,
   ⟨0xB5, .tlb, "Instruction TLB: 4KByte pages, 8-way set associative, 64 entries."⟩,
   ⟨0xB6, .tlb, "Instruction TLB: 4KByte pages, 8-way set associative, 128 entries."⟩,
   ⟨0xBA, .tlb, "Data TLB1: 4 KByte pages, 4-way associative, 64 entries."⟩,
   ⟨0xC0, .tlb, "Data TLB: 4 KByte and 4 MByte pages, 4-way associative, 8 entries."⟩,
   ⟨0xC1, .stlb, "Shared 2nd-Level TLB: 4 KByte/2MByte pages, 8-way associative, 1024 entries."⟩]

/-- Table 3-21, values C2H to FFH. -/
def descriptorsD : List Descriptor :=
  [⟨0xC2, .dtlb, "DTLB: 4 KByte/2 MByte pages, 4-way associative, 16 entries."⟩,
   ⟨0xC3, .stlb, "Shared 2nd-Level TLB: 4 KByte /2 MByte pages, 6-way associative, 1536 entries. Also 1GByte pages, 4-way, 16 entries."⟩,
   ⟨0xC4, .dtlb, "DTLB: 2M/4M Byte pages, 4-way associative, 32 entries."⟩,
   ⟨0xCA, .stlb, "Shared 2nd-Level TLB: 4 KByte pages, 4-way associative, 512 entries."⟩,
   ⟨0xD0, .cache, "3rd-level cache: 512 KByte, 4-way set associative, 64 byte line size."⟩,
   ⟨0xD1, .cache, "3rd-level cache: 1 MByte, 4-way set associative, 64 byte line size."⟩,
   ⟨0xD2, .cache, "3rd-level cache: 2 MByte, 4-way set associative, 64 byte line size."⟩,
   ⟨0xD6, .cache, "3rd-level cache: 1 MByte, 8-way set associative, 64 byte line size."⟩,
   ⟨0xD7, .cache, "3rd-level cache: 2 MByte, 8-way set associative, 64 byte line size."⟩,
   ⟨0xD8, .cache, "3rd-level cache: 4 MByte, 8-way set associative, 64 byte line size."⟩,
   ⟨0xDC, .cache, "3rd-level cache: 1.5 MByte, 12-way set associative, 64 byte line size."⟩,
   ⟨0xDD, .cache, "3rd-level cache: 3 MByte, 12-way set associative, 64 byte line size."⟩,
   ⟨0xDE, .cache, "3rd-level cache: 6 MByte, 12-way set associative, 64 byte line size."⟩,
   ⟨0xE2, .cache, "3rd-level cache: 2 MByte, 16-way set associative, 64 byte line size."⟩,
   ⟨0xE3, .cache, "3rd-level cache: 4 MByte, 16-way set associative, 64 byte line size."⟩,
   ⟨0xE4, .cache, "3rd-level cache: 8 MByte, 16-way set associative, 64 byte line size."⟩,
   ⟨0xEA, .cache, "3rd-level cache: 12MByte, 24-way set associative, 64 byte line size."⟩,
   ⟨0xEB, .cache, "3rd-level cache: 18MByte, 24-way set associative, 64 byte line size."⟩,
   ⟨0xEC, .cache, "3rd-level cache: 24MByte, 24-way set associative, 64 byte line size."⟩,
   ⟨0xF0, .prefetch, "64-Byte prefetching."⟩,
   ⟨0xF1, .prefetch, "128-Byte prefetching."⟩,
   ⟨0xFE, .general, "CPUID leaf 2 does not report TLB descriptor information; use CPUID leaf 18H to query TLB and other address translation parameters."⟩,
   ⟨0xFF, .general, "CPUID leaf 2 does not report cache descriptor information, use CPUID leaf 4 to query cache parameters."⟩]

/-- Table 3-21. A value that no row has is not defined by the source (N38). -/
def descriptorTable : List Descriptor := descriptorsA ++ descriptorsB ++ descriptorsC ++ descriptorsD

/-- The row of Table 3-21 for a descriptor byte. -/
def descriptorOf (b : Byte) : Option Descriptor := descriptorTable.find? fun d => d.value == b

end Sys2Proof.Machine
end

