-- ==== Sys2Proof/Config.lean ====
section
/-! DEFINITION. What an implementation fixes (the record `Cfg` of spec/00_scope.md R8, as plain data) and the free
values: constants without a body, so that nothing in Lean can evaluate one or prove a value of it. -/

namespace Sys2Proof

/-- One supported leaf's constants for one sub-leaf: the four values the processor holds before the fixed fields,
the run-time fields and the sub-leaf rules of files 41 to 45 are applied (R8 `Cfg.leaf`, R14). -/
structure LeafEntry where
  leaf : Word32
  sub  : Word32
  regs : Quad
deriving DecidableEq, Repr, Inhabited

/-- The identity of the logical processor that executes (R9 `lp`, R477). -/
structure Lp where
  /-- The 8-bit ID given to the local APIC at power up: CPUID.01H:EBX[31:24] (R148). -/
  initialApicId : BitVec 8 := 0
  /-- The 32-bit x2APIC ID: CPUID.0BH:EDX and CPUID.1FH:EDX (R284, R379). -/
  x2apicId : Word32 := 0
deriving DecidableEq, Repr, Inhabited

/-- The configuration of one logical processor (R8): everything "processor specific", fixed before the first
instruction and never written by a step. It is plain data, held in `State`, so that a statement about every state
is a statement about every processor (log entry 1). A constant that no list below holds is a free value (log entry 13). -/
structure Cfg where
  /-- The processor has the instruction (R4, R462). -/
  cpuidSupported : Bool := true
  /-- An "Intel 64 processor": RAX to RDX are 64 bits wide (R21). -/
  intel64 : Bool := false
  /-- The processor supports the microcode update facility (R107). -/
  microcodeFacility : Bool := false
  /-- The processor is "the Pentium 4 processor or later", which has no serial number (R154; log entry 39). -/
  pentium4OrLater : Bool := false
  /-- The "update signature" (R32, R107). -/
  microcodeSignature : Word32 := 0
  /-- `PcWidth`: the width of the program counter in bits (R25, D2; log entry 5). -/
  pcWidth : Nat := 64
  /-- "Maximum Input Value for Basic CPUID Information"; 30 bits, since it is below 40000000H (R8, R440). -/
  maxBasic : BitVec 30 := 0
  /-- "Maximum Input Value for Extended Function CPUID Information"; below 80000000H: no extended functions (R8, D19). -/
  maxExt : Word32 := 0
  /-- The leaves the processor implements, where no rule decides it (R8 `Cfg.supported`). -/
  supported : List Word32 := []
  /-- The constants of the supported leaves (R8 `Cfg.leaf`). -/
  table : List LeafEntry := []
  /-- `k` of R200: how many caches leaf 04H describes. -/
  cacheCount : Nat := 0
  /-- Valid sub-leaves of leaf 0BH above the two that are always enumerated: `T - 2` of R280. -/
  extraDomains : Nat := 0
  /-- Which of Module, Tile, Die, DieGrp leaf 1FH enumerates, bit 0 for Module (R375, R378). -/
  upperDomains : BitVec 4 := 0
  /-- `P` of R365: how many valid sub-leaves leaf 1BH has. -/
  pconfigCount : Nat := 0
  /-- Whether sub-leaf 0 of leaf 18H, when its type is null, still reports the maximum in EAX (R345, N39). -/
  nullTlbKeepsMax : Bool := false
  /-- `Cfg.xsave_size`: the size of the XSAVE area for a value of XCR0 (R292). -/
  xsaveSizes : List (Word64 × Word32) := []
  /-- `Cfg.xsave_size_compact`: the size of the compacted area for a set of states (R295). -/
  compactSizes : List (Word64 × Word32) := []
  /-- The executing logical processor (R9). -/
  lp : Lp := {}
deriving DecidableEq, Repr, Inhabited

/-- FREE VALUE: the constants of a supported leaf and sub-leaf that `Cfg.table` does not list, for the logical
processor with the given x2APIC ID (R14, R111, U1, U10; log entry 13). -/
opaque Config.freeLeaf : (x2apicId leaf sub : Word32) → Quad

/-- FREE VALUE: `Cfg.xsave_size` at a value of XCR0 that `Cfg.xsaveSizes` does not list, for the logical processor with the
given x2APIC ID (R292, R477, N8; log entry 19). -/
opaque Config.freeXsaveSize : (x2apicId : Word32) → (xcr0 : Word64) → Word32

/-- FREE VALUE: `Cfg.xsave_size_compact` at a set of states that `Cfg.compactSizes` does not list, for the logical processor
with the given x2APIC ID (R295, R477, N8; log entry 19). -/
opaque Config.freeCompactSize : (x2apicId : Word32) → (states : Word64) → Word32

/-- FREE VALUE: what an execution leaves in the pc where `pc` plus its length does not fit the width. No step goes there: it
is refused (R25, D2, U30; log entry 5). -/
opaque Config.pcOverflow : (x2apicId : Word32) → (width sum : Nat) → Word64

/-- FREE VALUE: IA32_BIOS_SIGN_ID bits 31:0 after the n-th load of the logical processor with the given x2APIC ID, drawn
anew at each (R107, R477, D7, U17; log entry 10). -/
opaque Config.freeSignatureLow : (x2apicId : Word32) → (n : Nat) → Word32

/-- FREE VALUE: whether the fetch of a byte that an earlier store has not yet written to memory sees the stored byte
(R58, R477, N11; log entry 11). -/
opaque Config.fetchSeesStore : (x2apicId : Word32) → (n address : Nat) → Bool

end Sys2Proof
end

