-- ==== Sys2Proof/Machine/Bits.lean ====
section
/-! DEFINITION. Bit-field helpers (spec/00_scope.md R11, R13). -/

namespace Sys2Proof.Machine

/-- `v[hi:lo]` read as an unsigned integer of `hi-lo+1` bits (R11). -/
def field (v : Word32) (hi lo : Nat) : Nat := (v.toNat >>> lo) % 2 ^ (hi - lo + 1)

/-- `v[n]`, one bit (R11). -/
def bit (v : Word32) (n : Nat) : Bool := v.getLsbD n

/-- Byte `k` of a register: bits `8k+7 : 8k` (R52, R162). -/
def byteOf (v : Word32) (k : Nat) : Byte := v.extractLsb' (8 * k) 8

/-- The four bytes of a register, bits 7:0 first (R52). -/
def bytesOf (v : Word32) : List Byte := [byteOf v 0, byteOf v 1, byteOf v 2, byteOf v 3]

/-- A one-bit value as bit 0 of a 32-bit word. -/
def wordOfBool (b : Bool) : Word32 := if b then 1 else 0

/-- `a :: b`, with `a` in the high half (R13). -/
def joinWords (hi lo : Word32) : Word64 := (hi ++ lo : BitVec 64)

end Sys2Proof.Machine
end

