-- ==== Sys2Proof/Machine/Layout.lean ====
section
/-! DEFINITION. The field tables of the output registers, as data: a register is a list of fields, each with its bit
range, its name and where its value comes from (spec/00_scope.md R6 item 4, R8, R9, R14; the template at the head of
spec/41_leaves_00_03.md). `renderReg` turns a table and the processor's constants into the register's value. -/

namespace Sys2Proof.Machine

/-- The fields that are not constants of the table: the run-time inputs of R9, the identity of the logical processor,
and the fields that another field or another parameter of `Cfg` fixes. Their values are `dynValue`. -/
inductive DynField where
  | effMaxBasic      -- leaf 00H EAX (R103, R140)
  | initialApicId    -- leaf 01H EBX[31:24] (R148)
  | osxsave          -- leaf 01H ECX[27] (R152)
  | psn              -- leaf 01H EDX[18] (R154)
  | coreIds          -- leaf 04H EAX[31:26] (R201)
  | hfiPair          -- leaf 06H EDX[1], set together with EDX[0] (R218)
  | ospke            -- leaf 07H ECX[4] (R232)
  | dcaCap           -- leaf 09H EAX (R265)
  | subIndexLow      -- leaves 0BH, 1FH ECX[7:0] (R283, R378)
  | x2apicId         -- leaves 0BH, 1FH EDX (R284, R379)
  | domainType       -- leaf 1FH ECX[15:8] (R378)
  | xsaveSize        -- leaf 0DH sub-leaf 0 EBX (R292)
  | xsaveCompactSize -- leaf 0DH sub-leaf 1 EBX (R295)
  | xsaveOffset      -- leaf 0DH sub-leaf n EBX (R297)
  | xssManaged       -- leaf 0DH sub-leaf n ECX[0] (R297)
  | aeskle           -- leaf 19H EBX[0] (R350)
  | maxExt           -- leaf 80000000H EAX (R421)
  | syscall          -- leaf 80000001H EDX[11] (R424)
  | intel64          -- leaf 80000001H EDX[29] (R424)
deriving DecidableEq, Repr, Inhabited

/-- Where the value of a field comes from. -/
inductive Source where
  /-- A constant of the processor with a stated meaning (R8, U3). -/
  | const
  /-- "Reserved" with no value: a constant of the processor that nothing is said of (R14, U1). -/
  | reserved
  /-- A value the source fixes; 0 for "Reserved = 0" (R14, U2). -/
  | fixed (v : Nat)
  /-- A value read at execution (R9). -/
  | live (d : DynField)
deriving DecidableEq, Repr, Inhabited

/-- One row of a register's field table: bits `hi:lo`. -/
structure Field where
  hi     : Nat
  lo     : Nat
  name   : String
  source : Source
deriving DecidableEq, Repr, Inhabited

/-- The field tables of the four registers of one leaf and sub-leaf. -/
structure Layout where
  eax : List Field
  ebx : List Field
  ecx : List Field
  edx : List Field
deriving DecidableEq, Repr, Inhabited

/-- A named field that is a constant of the processor. -/
def fld (hi lo : Nat) (name : String) : Field := ⟨hi, lo, name, .const⟩
/-- A named one-bit flag that is a constant of the processor. -/
def flag (n : Nat) (name : String) : Field := ⟨n, n, name, .const⟩
/-- A "Reserved" field without a value. -/
def rsvd (hi lo : Nat) : Field := ⟨hi, lo, "Reserved", .reserved⟩
/-- A field the source fixes at 0. -/
def zeros (hi lo : Nat) : Field := ⟨hi, lo, "Reserved = 0", .fixed 0⟩
/-- A named field the source fixes at a value. -/
def fixd (hi lo : Nat) (name : String) (v : Nat) : Field := ⟨hi, lo, name, .fixed v⟩
/-- A named field read at execution. -/
def live (hi lo : Nat) (name : String) (d : DynField) : Field := ⟨hi, lo, name, .live d⟩

/-- The field holds bit `i`. -/
def Field.covers (f : Field) (i : Nat) : Bool := Nat.ble f.lo i && Nat.ble i f.hi

/-- Bit `i` of a field that covers it: of the processor's constant `raw`, of the fixed value, or of the value read at
execution. -/
def Field.bitValue (f : Field) (raw : Word32) (env : DynField → Word32) (i : Nat) : Bool :=
  match f.source with
  | .const    => raw.getLsbD i
  | .reserved => raw.getLsbD i
  | .fixed v  => v.testBit (i - f.lo)
  | .live d   => (env d).getLsbD (i - f.lo)

/-- Bit `i` of a register with the field table `fs`. -/
def regBit (fs : List Field) (raw : Word32) (env : DynField → Word32) (i : Nat) : Bool :=
  match fs.find? (fun f => f.covers i) with
  | some f => f.bitValue raw env i
  | none   => raw.getLsbD i

/-- The value of a register with the field table `fs`. -/
def renderReg (fs : List Field) (raw : Word32) (env : DynField → Word32) : Word32 :=
  BitVec.ofFnLE fun i : Fin 32 => regBit fs raw env i

/-- The four values of a leaf and sub-leaf with the layout `l`. -/
def Layout.render (l : Layout) (raw : Quad) (env : DynField → Word32) : Quad :=
  { eax := renderReg l.eax raw.eax env, ebx := renderReg l.ebx raw.ebx env
    ecx := renderReg l.ecx raw.ecx env, edx := renderReg l.edx raw.edx env }

/-- Every bit of 31:0 lies in exactly one field of the table. -/
def fieldsPartition (fs : List Field) : Bool :=
  (List.range 32).all fun i => (fs.filter fun f => f.covers i).length == 1

/-- All four tables of a layout partition their register. -/
def Layout.partitions (l : Layout) : Bool :=
  fieldsPartition l.eax && fieldsPartition l.ebx && fieldsPartition l.ecx && fieldsPartition l.edx

/-- The field table of one whole 32-bit constant. -/
def wholeConst (name : String) : List Field := [fld 31 0 name]
/-- The field table of a register that is Reserved without a value. -/
def wholeReserved : List Field := [rsvd 31 0]
/-- The field table of a register that is "Reserved = 0". -/
def wholeZero : List Field := [zeros 31 0]

end Sys2Proof.Machine
end

