-- ==== Sys2Proof/Machine/Layouts09.lean ====
section
/-! DEFINITION. The field tables of leaves 09H to 12H (spec/43_leaves_09_12.md). -/

namespace Sys2Proof.Machine

/-- Leaf 09H: direct cache access (R265). -/
def layout09 : Layout where
  eax := [live 31 0 "IA32_PLATFORM_DCA_CAP bits 31:0" .dcaCap]
  ebx := wholeReserved
  ecx := wholeReserved
  edx := wholeReserved

/-- Leaf 0AH: architectural performance monitoring (R270 to R273). -/
def layout0A : Layout where
  eax := [fld 7 0 "Version ID", fld 15 8 "Number of general-purpose counters per logical processor",
          fld 23 16 "Bit width of general-purpose counters", fld 31 24 "Length of EBX bit vector"]
  ebx := [flag 0 "Core cycle not available", flag 1 "Instruction retired not available",
          flag 2 "Reference cycles not available", flag 3 "Last-level cache reference not available",
          flag 4 "Last-level cache misses not available", flag 5 "Branch instruction retired not available",
          flag 6 "Branch mispredict retired not available", flag 7 "Top-down slots not available", zeros 31 8]
  ecx := wholeConst "Supported fixed counters bit mask"
  edx := [fld 4 0 "Number of contiguous fixed-function counters", fld 12 5 "Bit width of fixed-function counters",
          zeros 14 13, flag 15 "AnyThread deprecation", zeros 31 16]

/-- EAX and EBX of a valid sub-leaf of leaves 0BH and 1FH (R281, R282, R376, R377). -/
def topologyEax : List Field := [fld 4 0 "x2APIC ID shift to the next higher-scoped domain", rsvd 31 5]
def topologyEbx : List Field :=
  [fld 15 0 "Logical processors across all instances of this domain", rsvd 31 16]
/-- EDX of every sub-leaf of leaves 0BH and 1FH (R284, R379). -/
def topologyEdx : List Field := [live 31 0 "x2APIC ID of the current logical processor" .x2apicId]
/-- ECX of leaves 0BH and 1FH with a domain type that the source fixes (R283, R378). -/
def topologyEcx (domainType : Nat) : List Field :=
  [live 7 0 "Input ECX sub-leaf index" .subIndexLow, fixd 15 8 "Domain Type" domainType, rsvd 31 16]

/-- Leaf 0BH sub-leaf 0: Logical Processor; sub-leaf 1: Core (R280, R283). -/
def layout0B (domainType : Nat) : Layout := ⟨topologyEax, topologyEbx, topologyEcx domainType, topologyEdx⟩

/-- Leaf 0BH, a valid sub-leaf above 1: a domain type of the reserved range, as `Cfg.topologyReported` has it (R283, U25; log
entry 21). -/
def layout0BExtra : Layout :=
  ⟨topologyEax, topologyEbx, [live 7 0 "Input ECX sub-leaf index" .subIndexLow, fld 15 8 "Domain Type", rsvd 31 16],
   topologyEdx⟩

/-- Leaves 0BH and 1FH, an invalid sub-leaf: not all zeros (R285, R380). -/
def layoutNoDomain : Layout := ⟨wholeZero, wholeZero, topologyEcx 0, topologyEdx⟩

/-- Leaf 0DH sub-leaf 0: XCR0 components and sizes; the bits "Used for IA32_XSS" are 0 (R291 to R293; log entry 20). -/
def layout0Ds0 : Layout where
  eax := [flag 0 "x87 state", flag 1 "SSE state", flag 2 "AVX state", fld 4 3 "MPX state", fld 7 5 "AVX-512 state",
          fixd 8 8 "Used for IA32_XSS" 0, flag 9 "PKRU state", fixd 16 10 "Used for IA32_XSS" 0, flag 17 "TILECFG state",
          flag 18 "TILEDATA state", rsvd 31 19]
  ebx := [live 31 0 "Maximum size required by enabled features in XCR0" .xsaveSize]
  ecx := wholeConst "Maximum size required by all supported features"
  edx := [fld 31 0 "Supported bits of the upper 32 bits of XCR0"]

/-- Leaf 0DH sub-leaf 1: the XSAVE extensions and the IA32_XSS components (R294 to R296; log entry 20). -/
def layout0Ds1 : Layout where
  eax := [flag 0 "XSAVEOPT", flag 1 "XSAVEC and the compacted form of XRSTOR", flag 2 "XGETBV with ECX = 1",
          flag 3 "XSAVES/XRSTORS and IA32_XSS", flag 4 "XFD", rsvd 31 5]
  ebx := [live 31 0 "Size of the XSAVE area containing all states enabled" .xsaveCompactSize]
  ecx := [fixd 7 0 "Used for XCR0" 0, flag 8 "PT state", fixd 9 9 "Used for XCR0" 0, flag 10 "PASID state",
          flag 11 "CET user state", flag 12 "CET supervisor state", flag 13 "HDC state", flag 14 "UINTR state",
          flag 15 "LBR state", flag 16 "HWP state", fixd 18 17 "Used for XCR0" 0, rsvd 31 19]
  edx := [fld 31 0 "Supported bits of the upper 32 bits of the IA32_XSS MSR"]

/-- Leaf 0DH, a valid sub-leaf above 1 (R297). -/
def layout0DComponent : Layout where
  eax := wholeConst "Size in bytes of the component's save area"
  ebx := [live 31 0 "Offset in bytes of the component's save area" .xsaveOffset]
  ecx := [live 0 0 "Supported in the IA32_XSS MSR" .xssManaged, flag 1 "Aligned on a 64-byte boundary when compacted",
          rsvd 31 2]
  edx := wholeReserved

/-- Leaf 0FH sub-leaf 0 (R301). -/
def layout0Fs0 : Layout where
  eax := wholeReserved
  ebx := wholeConst "Maximum range (zero-based) of RMID of all types"
  ecx := wholeReserved
  edx := [rsvd 0 0, flag 1 "L3 Cache Intel RDT Monitoring", rsvd 31 2]

/-- Leaf 0FH sub-leaf 1 (R302). -/
def layout0Fs1 : Layout where
  eax := [fld 7 0 "Counter width, offset from 24", flag 8 "Overflow bit in IA32_QM_CTR", flag 9 "Non-CPU agent CMT",
          flag 10 "Non-CPU agent MBM", rsvd 31 11]
  ebx := wholeConst "Conversion factor"
  ecx := wholeConst "Maximum range (zero-based) of RMID of this resource type"
  edx := [flag 0 "L3 occupancy monitoring", flag 1 "L3 Total Bandwidth monitoring", flag 2 "L3 Local Bandwidth monitoring",
          rsvd 31 3]

/-- Leaf 10H sub-leaf 0 (R306). -/
def layout10s0 : Layout where
  eax := wholeReserved
  ebx := [rsvd 0 0, flag 1 "L3 Cache Allocation Technology", flag 2 "L2 Cache Allocation Technology",
          flag 3 "Memory Bandwidth Allocation", rsvd 31 4]
  ecx := wholeReserved
  edx := wholeReserved

/-- Leaf 10H sub-leaf 1, L3 Cache Allocation Technology (R307). -/
def layout10s1 : Layout where
  eax := [fld 4 0 "Length of the capacity bit mask, minus one", rsvd 31 5]
  ebx := wholeConst "Bit-granular map of isolation/contention of allocation units"
  ecx := [rsvd 0 0, flag 1 "L3 CAT for non-CPU agents", flag 2 "L3 Code and Data Prioritization Technology",
          flag 3 "Non-contiguous capacity bitmask", rsvd 31 4]
  edx := [fld 15 0 "Highest CLOS number", rsvd 31 16]

/-- Leaf 10H sub-leaf 2, L2 Cache Allocation Technology (R308). -/
def layout10s2 : Layout where
  eax := [fld 4 0 "Length of the capacity bit mask, minus one", rsvd 31 5]
  ebx := wholeConst "Bit-granular map of isolation/contention of allocation units"
  ecx := [rsvd 1 0, flag 2 "CDP", flag 3 "Non-contiguous capacity bitmask", rsvd 31 4]
  edx := [fld 15 0 "Highest CLOS number", rsvd 31 16]

/-- Leaf 10H sub-leaf 3, Memory Bandwidth Allocation (R309). -/
def layout10s3 : Layout where
  eax := [fld 11 0 "Maximum MBA throttling value, minus one", rsvd 31 12]
  ebx := wholeReserved
  ecx := [rsvd 1 0, flag 2 "Response of the delay values is linear", rsvd 31 3]
  edx := [fld 15 0 "Highest CLOS number", rsvd 31 16]

/-- Leaf 12H sub-leaf 0, SGX capabilities (R316). -/
def layout12s0 : Layout where
  eax := [flag 0 "SGX1", flag 1 "SGX2", rsvd 4 2, flag 5 "EINCVIRTUAL, EDECVIRTUAL, ESETCONTEXT",
          flag 6 "ETRACKC, ERDINFO, ELDBC, ELDUC", flag 7 "EVERIFYREPORT2", rsvd 9 8, flag 10 "EUPDATESVN",
          flag 11 "EDECCSSA", rsvd 31 12]
  ebx := wholeConst "MISCSELECT"
  ecx := wholeReserved
  edx := [fld 7 0 "MaxEnclaveSize_Not64", fld 15 8 "MaxEnclaveSize_64", rsvd 31 16]

/-- Leaf 12H sub-leaf 1, SGX attributes (R317). -/
def layout12s1 : Layout where
  eax := wholeConst "Valid bits of SECS.ATTRIBUTES[31:0]"
  ebx := wholeConst "Valid bits of SECS.ATTRIBUTES[63:32]"
  ecx := wholeConst "Valid bits of SECS.ATTRIBUTES[95:64]"
  edx := wholeConst "Valid bits of SECS.ATTRIBUTES[127:96]"

/-- Leaf 12H sub-leaf 2 or higher of type 0001b, an EPC section (R318). -/
def layout12Epc : Layout where
  eax := [fixd 3 0 "Sub-leaf type" 1, zeros 11 4, fld 31 12 "Base of the EPC section, bits 31:12"]
  ebx := [fld 19 0 "Base of the EPC section, bits 51:32", rsvd 31 20]
  ecx := [fld 3 0 "EPC section property encoding", zeros 11 4, fld 31 12 "Size of the EPC section, bits 31:12"]
  edx := [fld 19 0 "Size of the EPC section, bits 51:32", rsvd 31 20]

/-- Leaf 12H, an EPC section whose property encoding is 0000b: the EDX:ECX pair is 0 (R318). -/
def layout12EpcNoProperty : Layout :=
  { layout12Epc with ecx := wholeZero, edx := wholeZero }

end Sys2Proof.Machine
end

