-- ==== Sys2Proof/Machine/Processor.lean ====
section
/-! DEFINITION. The configuration read as rules: leaf numbers as names, the constants of a leaf, which leaves are
supported, and the parameters that the leaf rules derive from the constants (spec/00_scope.md R8; spec/40 to 45). -/

namespace Sys2Proof.Machine

/-- The leaf numbers that the source names, and every other number (R100, R441). -/
inductive LeafId where
  /-- 00H: Maximum basic leaf and vendor string (R140). -/
  | b00
  /-- 01H: Version and feature flags (R142). -/
  | b01
  /-- 02H: Cache, TLB and prefetch descriptors (R160). -/
  | b02
  /-- 03H: Processor serial number (R170). -/
  | b03
  /-- 04H: Deterministic cache parameters (R200). -/
  | b04
  /-- 05H: MONITOR/MWAIT (R210). -/
  | b05
  /-- 06H: Thermal and power management (R215). -/
  | b06
  /-- 07H: Structured extended feature flags (R230). -/
  | b07
  /-- 08H: Reserved (R260). -/
  | b08
  /-- 09H: Direct cache access (R265). -/
  | b09
  /-- 0AH: Architectural performance monitoring (R270). -/
  | b0A
  /-- 0BH: Extended topology (R280). -/
  | b0B
  /-- 0CH: Reserved (R260). -/
  | b0C
  /-- 0DH: Processor extended state (R290). -/
  | b0D
  /-- 0EH: Reserved (R260). -/
  | b0E
  /-- 0FH: Intel RDT monitoring (R300). -/
  | b0F
  /-- 10H: Intel RDT allocation (R305). -/
  | b10
  /-- 12H: Intel SGX (R315). -/
  | b12
  /-- 14H: Intel Processor Trace (R330). -/
  | b14
  /-- 15H: TSC and core crystal clock (R335). -/
  | b15
  /-- 16H: Processor frequency (R338). -/
  | b16
  /-- 17H: System-on-chip vendor attributes (R340). -/
  | b17
  /-- 18H: Deterministic address translation parameters (R345). -/
  | b18
  /-- 19H: Key Locker (R350). -/
  | b19
  /-- 1AH: Native model ID (R355). -/
  | b1A
  /-- 1BH: PCONFIG (R365). -/
  | b1B
  /-- 1CH: Last branch records (R368). -/
  | b1C
  /-- 1DH: Tile information (R370). -/
  | b1D
  /-- 1EH: TMUL information (R373). -/
  | b1E
  /-- 1FH: V2 extended topology (R375). -/
  | b1F
  /-- 20H: Processor history reset (R385). -/
  | b20
  /-- 21H: Invalid (R390). -/
  | b21
  /-- 23H: Architectural performance monitoring, extended (R395). -/
  | b23
  /-- 24H: Intel AVX10 converged vector ISA (R405). -/
  | b24
  /-- 80000000H: Maximum extended leaf (R421). -/
  | e0
  /-- 80000001H: Extended signature and feature flags (R422). -/
  | e1
  /-- 80000002H: Processor brand string (R425). -/
  | e2
  /-- 80000003H: Processor brand string (R425). -/
  | e3
  /-- 80000004H: Processor brand string (R425). -/
  | e4
  /-- 80000005H: Reserved (R430). -/
  | e5
  /-- 80000006H: L2 cache (R431). -/
  | e6
  /-- 80000007H: Invariant TSC (R432). -/
  | e7
  /-- 80000008H: Address sizes (R433). -/
  | e8
  /-- A number without a rule of its own: 11H, 13H, 22H, a basic leaf above 24H, an extended leaf above 80000008H
  (R260, R390, R420). -/
  | other
deriving DecidableEq, Repr, Inhabited

/-- The number of each named leaf. -/
def leafNumbers : List (Word32 × LeafId) :=
  [(0x00, .b00), (0x01, .b01), (0x02, .b02), (0x03, .b03), (0x04, .b04), (0x05, .b05), (0x06, .b06), (0x07, .b07),
   (0x08, .b08), (0x09, .b09), (0x0A, .b0A), (0x0B, .b0B), (0x0C, .b0C), (0x0D, .b0D), (0x0E, .b0E), (0x0F, .b0F),
   (0x10, .b10), (0x12, .b12), (0x14, .b14), (0x15, .b15), (0x16, .b16), (0x17, .b17), (0x18, .b18), (0x19, .b19),
   (0x1A, .b1A), (0x1B, .b1B), (0x1C, .b1C), (0x1D, .b1D), (0x1E, .b1E), (0x1F, .b1F), (0x20, .b20), (0x21, .b21),
   (0x23, .b23), (0x24, .b24), (0x80000000, .e0), (0x80000001, .e1), (0x80000002, .e2), (0x80000003, .e3), (0x80000004, .e4), (0x80000005, .e5),
   (0x80000006, .e6), (0x80000007, .e7), (0x80000008, .e8)]

/-- The name of a leaf number. -/
def LeafId.ofWord (w : Word32) : LeafId :=
  match leafNumbers.find? (fun p => p.1 == w) with
  | some p => p.2
  | none   => .other

end Sys2Proof.Machine

namespace Sys2Proof

/-- The maximum basic leaf as a 32-bit value (R8). -/
def Cfg.maxBasicWord (c : Cfg) : Word32 := c.maxBasic.setWidth 32

/-- The processor has extended functions (R421, D19). -/
def Cfg.hasExtended (c : Cfg) : Bool := decide (0x80000000#32 ≤ c.maxExt)

/-- The constants of a leaf and sub-leaf: those `Cfg.table` lists, else a free value (R8, R14; log entry 13). On a
processor without extended functions the free EAX of the highest basic leaf is below 80000000H (R421; log entry 42). -/
def Cfg.raw (c : Cfg) (leaf sub : Word32) : Quad :=
  match c.table.find? (fun e => e.leaf == leaf && e.sub == sub) with
  | some e => e.regs
  | none   =>
    let free := Config.freeLeaf c.lp.x2apicId leaf sub
    if !c.hasExtended && leaf == c.maxBasicWord then { free with eax := free.eax &&& 0x7FFFFFFF } else free

/-- The number is a basic or an extended leaf of this processor (R17 "basic leaf", "extended leaf"). -/
def Cfg.inRange (c : Cfg) (leaf : Word32) : Bool :=
  decide (leaf ≤ c.maxBasicWord) || (decide (0x80000000#32 ≤ leaf) && decide (leaf ≤ c.maxExt))

/-- The processor lists the leaf as implemented, and the number is in range (R17 "supported leaf"). -/
def Cfg.implements (c : Cfg) (leaf : Word32) : Bool := c.inRange leaf && c.supported.contains leaf

/-- The constants of leaf 07H as the feature rules read them: zeros when the leaf is not implemented or the sub-leaf
is invalid (R230). -/
def Cfg.leaf7 (c : Cfg) (sub : Word32) : Quad :=
  if c.implements 7 && decide (sub ≤ (c.raw 7 0).eax) then c.raw 7 sub else Quad.zero

/-- CPUID.(07H,0):EBX[2] SGX (R315). -/
def Cfg.sgx (c : Cfg) : Bool := Machine.bit (c.leaf7 0).ebx 2

/-- `Cfg.limit_removable`, the inverse of CPUID.(07H,1):EBX[3] CPUIDMAXVAL_LIM_RMV: IA32_MISC_ENABLE[22] can be set
(R8, R31; log entry 15). -/
def Cfg.limitRemovable (c : Cfg) : Bool := !(Machine.bit (c.leaf7 1).ebx 3)

/-- `Cfg.supported(leaf)` (R8, R102). Leaf 00H and, on a processor with extended functions, leaf 80000000H report the
maxima and are supported (R102; log entry 38). Leaves 08H, 0CH, 0EH and 21H never are (R260, R390). Leaf 12H is when
the SGX flag is 1 (R315; log entry 17). The configuration says it of every other leaf (D25; log entry 16). -/
def Cfg.supports (c : Cfg) (leaf : Word32) : Bool :=
  match Machine.LeafId.ofWord leaf with
  | .b00 | .e0                 => true
  | .b08 | .b0C | .b0E | .b21  => false
  | .b12                       => c.sgx
  | _                          => c.supported.contains leaf

/-- The constants of leaf 0DH as the rules of XCR0 and IA32_XSS read them: zeros when the leaf is not implemented, as it
then returns them (R29, R30, R102). -/
def Cfg.leaf0D (c : Cfg) (sub : Word32) : Quad := if c.implements 0xD then c.raw 0xD sub else Quad.zero

/-- CPUID.(0DH,0):EAX, the supported bits of XCR0 31:0 (R291). -/
def Cfg.xcr0Low (c : Cfg) : Word32 := Machine.renderReg Machine.layout0Ds0.eax (c.leaf0D 0).eax fun _ => 0

/-- CPUID.(0DH,0):EDX, the supported bits of XCR0 63:32 (R291, C14). -/
def Cfg.xcr0High (c : Cfg) : Word32 := (c.leaf0D 0).edx

/-- CPUID.(0DH,1):ECX, the supported bits of IA32_XSS 31:0 (R296). -/
def Cfg.xssLow (c : Cfg) : Word32 := Machine.renderReg Machine.layout0Ds1.ecx (c.leaf0D 1).ecx fun _ => 0

/-- CPUID.(0DH,1):EDX, the supported bits of IA32_XSS 63:32 (R296, C14). -/
def Cfg.xssHigh (c : Cfg) : Word32 := (c.leaf0D 1).edx

/-- The 64-bit vector EDX:EAX of leaf 0DH sub-leaf 0: the bits of XCR0 that can be 1 (R291, R298). -/
def Cfg.xcr0Mask (c : Cfg) : Word64 := Machine.joinWords c.xcr0High c.xcr0Low

/-- The bits of IA32_XSS that can be 1 (R30, R296). -/
def Cfg.xssMask (c : Cfg) : Word64 := Machine.joinWords c.xssHigh c.xssLow

/-- `Cfg.xsave_size(XCR0)`: at most CPUID.(0DH,0):ECX, and equal to it when every supported bit of XCR0 is set
(R292; log entry 19). -/
def Cfg.xsaveSize (c : Cfg) (xcr0 : Word64) : Word32 :=
  let most := (c.raw 0xD 0).ecx
  if xcr0 &&& c.xcr0Mask = c.xcr0Mask then most
  else
    let size := match c.xsaveSizes.find? (fun p => p.1 == xcr0) with
      | some p => p.2
      | none   => Config.freeXsaveSize c.lp.x2apicId xcr0
    if size ≤ most then size else most

/-- `Cfg.xsave_size_compact(states)` (R295; log entry 19). -/
def Cfg.compactSize (c : Cfg) (states : Word64) : Word32 :=
  match c.compactSizes.find? (fun p => p.1 == states) with
  | some p => p.2
  | none   => Config.freeCompactSize c.lp.x2apicId states

/-- The domain types leaf 1FH enumerates, sub-leaf 0 first: Logical Processor, Core, then those of Module, Tile, Die,
DieGrp the processor has, in that order (R375, R378; log entry 22). -/
def Cfg.domainTypes (c : Cfg) : List Nat :=
  [1, 2] ++ (if c.upperDomains.getLsbD 0 then [3] else []) ++ (if c.upperDomains.getLsbD 1 then [4] else [])
    ++ (if c.upperDomains.getLsbD 2 then [5] else []) ++ (if c.upperDomains.getLsbD 3 then [6] else [])

/-- The bytes of a string spread over quads: EAX, EBX, ECX, EDX of each, bits 7:0 first (R52, R342, R426). -/
def Quad.bytes (q : Quad) : List Byte :=
  Machine.bytesOf q.eax ++ Machine.bytesOf q.ebx ++ Machine.bytesOf q.ecx ++ Machine.bytesOf q.edx

/-- `Mt` of R345: the EAX that sub-leaf 0 of leaf 18H returns. Where sub-leaf 0 is null the source does not say whether
EAX still holds the maximum (N39; log entry 24). -/
def Cfg.maxTlbSub (c : Cfg) : Word32 :=
  if Machine.field (c.raw 0x18 0).edx 4 0 = 0 ∧ c.nullTlbKeepsMax = false then 0 else (c.raw 0x18 0).eax

/-- What may follow a byte that begins a UTF-8 sequence: how many bytes, and the range of the first of them; none for a
byte that begins no sequence (log entry 43). -/
def utf8Lead (b : Nat) : Option (Nat × Nat × Nat) :=
  if b < 0x80 then some (0, 0x80, 0xBF)
  else if b < 0xC2 then none
  else if b < 0xE0 then some (1, 0x80, 0xBF)
  else if b = 0xE0 then some (2, 0xA0, 0xBF)
  else if b = 0xED then some (2, 0x80, 0x9F)
  else if b < 0xF0 then some (2, 0x80, 0xBF)
  else if b = 0xF0 then some (3, 0x90, 0xBF)
  else if b < 0xF4 then some (3, 0x80, 0xBF)
  else if b = 0xF4 then some (3, 0x80, 0x8F)
  else none

/-- The bytes continue a UTF-8 string in which `need` bytes of the current sequence are missing, the next of them from
`lo` to `hi` (log entry 43). -/
def utf8From : (need lo hi : Nat) → List Byte → Bool
  | need, _, _, [] => need == 0
  | 0, _, _, b :: rest =>
    match utf8Lead b.toNat with
    | some (need, lo, hi) => utf8From need lo hi rest
    | none                => false
  | need + 1, lo, hi, b :: rest => Nat.ble lo b.toNat && Nat.ble b.toNat hi && utf8From need 0x80 0xBF rest

/-- "A UTF-8 encoded string padded with trailing bytes of 00H" (R10, R342; log entry 43). -/
def utf8Padded (bytes : List Byte) : Bool :=
  utf8From 0 0x80 0xBF (bytes.takeWhile fun b => b != 0) && (bytes.dropWhile fun b => b != 0).all fun b => b == 0

end Sys2Proof
end

