-- ==== Sys2Proof/Syntax.lean ====
section
/-! DEFINITION. The instructions: one constructor per row of spec/opcode_table.json (spec/30_encoding.md R77). -/

namespace Sys2Proof

/-- The two rows of the opcode table. Neither has an operand: every bit of both encodings is fixed (R70, R72, R78). -/
inductive Instr where
  /-- `CPUID`, bytes `0F A2` (R70, R100). -/
  | cpuid
  /-- `LOCK CPUID`, bytes `F0 0F A2`, the one illegal form the source names (R74, R461). -/
  | lockCpuid
deriving DecidableEq, Repr, Inhabited

end Sys2Proof
end

