-- ==== Sys2Proof/WellFormed.lean ====
section
/-! DEFINITION. Well-formedness. An instruction of this spec has no operand, so the syntax has nothing to check. A
configuration has: the relations between constants that the leaf rules state, one check each. The field-level rules
(fixed bits, "Reserved = 0", invalid sub-leaves) hold of every configuration by how `leafValues` is built. -/

namespace Sys2Proof

/-- Both encodings are fully fixed and no operand is encoded, so every instruction is well formed (R70, R72, R78). -/
def Instr.wellFormed : Instr → Bool
  | .cpuid     => true
  | .lockCpuid => true

/-- A register of leaf 02H whose bit 31 is 0 holds only descriptors of Table 3-21, in the bytes from `first` on
(R160 points 2 and 3). -/
def descriptorsDefined (r : Word32) (first : Nat) : Bool :=
  Machine.bit r 31 ||
    (List.range 4).all fun k => decide (k < first) || (Machine.descriptorOf (Machine.byteOf r k)).isSome

/-- Leaf 02H: every descriptor byte of a valid register is a value of Table 3-21 (R160). -/
def Cfg.leaf02Defined (c : Cfg) : Bool :=
  !c.implements 2 ||
    (descriptorsDefined (c.raw 2 0).eax 1 && descriptorsDefined (c.raw 2 0).ebx 0 && descriptorsDefined (c.raw 2 0).ecx 0
      && descriptorsDefined (c.raw 2 0).edx 0)

/-- Leaf 04H: a sub-leaf that describes a cache has a type other than 0 and a level, which "starts at 1" (R200, R201). -/
def Cfg.cachesTyped (c : Cfg) : Bool :=
  !c.implements 4 || (List.range c.cacheCount).all fun n =>
    Machine.field (c.raw 4 (BitVec.ofNat 32 n)).eax 4 0 != 0 && Machine.field (c.raw 4 (BitVec.ofNat 32 n)).eax 7 5 != 0

/-- Leaf 18H: a sub-leaf up to the maximum whose type is not 0 has a level, which "starts at 1" (R345, R347). -/
def Cfg.tlbsLevelled (c : Cfg) : Bool :=
  !c.implements 0x18 || (List.range (c.maxTlbSub.toNat + 1)).all fun n =>
    Machine.field (c.raw 0x18 (BitVec.ofNat 32 n)).edx 4 0 == 0
      || Machine.field (c.raw 0x18 (BitVec.ofNat 32 n)).edx 7 5 != 0

/-- The domain types of leaf 0BH above Core: CPUID.(0BH,n):ECX[15:8] for n from 2 on (R280, U25). -/
def Cfg.extraDomainTypes (c : Cfg) : List Nat :=
  (List.range c.extraDomains).map fun n => Machine.field (c.raw 0xB (BitVec.ofNat 32 (n + 2))).ecx 15 8

/-- Leaf 0BH: implemented means CPUID.0BH:EBX[15:0] is not 0 (R286). Each valid sub-leaf represents the next higher-scoped
domain (R280), so Logical Processor and Core do not come again above Core, and no type comes twice: the types there are
of the range that U25 leaves open, above 2, and pairwise different. -/
def Cfg.topologyReported (c : Cfg) : Bool :=
  !c.implements 0xB ||
    (Machine.field (c.raw 0xB 0).ebx 15 0 != 0 && c.extraDomainTypes.all (fun t => Nat.ble 3 t)
      && decide c.extraDomainTypes.Nodup)

/-- Leaf 1FH: implemented means CPUID.1FH:EBX[15:0] is not 0 (R381). -/
def Cfg.topologyV2Reported (c : Cfg) : Bool :=
  !c.implements 0x1F || Machine.field (c.raw 0x1F 0).ebx 15 0 != 0

/-- Leaf 0DH: no component is managed by XCR0 and by IA32_XSS both (R296). -/
def Cfg.componentsDisjoint (c : Cfg) : Bool := !c.implements 0xD || c.xcr0Low &&& c.xssLow == 0

/-- Leaf 17H is valid if MaxSOCID_Index is at least 3 (R340). -/
def Cfg.socBrandPresent (c : Cfg) : Bool := !c.implements 0x17 || decide (3#32 ≤ (c.raw 0x17 0).eax)

/-- The 48 bytes of the SOC vendor brand string are UTF-8, padded with 00H at the end (R10, R342). -/
def Cfg.socBrandPadded (c : Cfg) : Bool :=
  !c.implements 0x17 || utf8Padded ((c.raw 0x17 1).bytes ++ (c.raw 0x17 2).bytes ++ (c.raw 0x17 3).bytes)

/-- Leaf 1BH: a valid sub-leaf has a type other than 0 (R365). -/
def Cfg.pconfigTyped (c : Cfg) : Bool :=
  !c.implements 0x1B || (List.range c.pconfigCount).all fun n => (c.raw 0x1B (BitVec.ofNat 32 n)).eax != 0

/-- A flag of leaf 07H that announces a leaf: the leaf is supported (log entry 36). -/
def Cfg.announces (c : Cfg) (flag : Bool) (leaf : Word32) : Bool := !flag || (c.inRange leaf && c.supports leaf)

/-- The leaves that flags of leaf 07H announce: 12H by SGX (R315), 1BH by PCONFIG (R365), 20H by HRESET (R385), 23H by
ArchPerfmonExt (R395), 24H by AVX10 (R405), and 1AH, with EAX other than 0, by Hybrid (R355). -/
def Cfg.announcedPresent (c : Cfg) : Bool :=
  c.announces c.sgx 0x12 && c.announces (Machine.bit (c.leaf7 0).edx 18) 0x1B
    && c.announces (Machine.bit (c.leaf7 1).eax 22) 0x20 && c.announces (Machine.bit (c.leaf7 1).eax 8) 0x23
    && c.announces (Machine.bit (c.leaf7 1).edx 19) 0x24
    && c.announces (Machine.bit (c.leaf7 0).edx 15) 0x1A
    && (!(Machine.bit (c.leaf7 0).edx 15) || (c.raw 0x1A 0).eax != 0)

/-- "The valid range of fixed-function counters is 0 through 15" (R272, R273, R397; log entry 36). The contiguous count of
leaf 0AH has a meaning only "if Version ID > 1" (R273). -/
def Cfg.fixedCountersInRange (c : Cfg) : Bool :=
  (!c.implements 0xA ||
    (Machine.field (c.raw 0xA 0).ecx 31 16 == 0 &&
      (Nat.ble (Machine.field (c.raw 0xA 0).eax 7 0) 1 || Nat.ble (Machine.field (c.raw 0xA 0).edx 4 0) 16)))
    && (!c.implements 0x23 || Machine.field (c.raw 0x23 1).ebx 31 16 == 0)

/-- The brand string is NULL-terminated: one of its 48 bytes is 00H (R426). -/
def Cfg.brandTerminated (c : Cfg) : Bool :=
  !(c.implements 0x80000002 && c.implements 0x80000003 && c.implements 0x80000004) ||
    ((c.raw 0x80000002 0).bytes ++ (c.raw 0x80000003 0).bytes ++ (c.raw 0x80000004 0).bytes).contains 0

/-- A processor whose signature is family 0FH, model 03H or later reports brand index 0 (R451). THE MODEL'S CHOICE (log
entry 44): Family_ID = 0FH is tested, whatever the extended family, with the two model fields of R146 together at least
3; a later family whose model is below 03H is not covered, since the source does not say whether "or later" takes it in. -/
def Cfg.brandIndexRetired (c : Cfg) : Bool :=
  !c.implements 1 ||
    !(Machine.field (c.raw 1 0).eax 11 8 == 0xF &&
        Nat.ble 3 (Machine.field (c.raw 1 0).eax 19 16 * 16 + Machine.field (c.raw 1 0).eax 7 4))
    || Machine.field (c.raw 1 0).ebx 7 0 == 0

/-- Family_ID 0FH is that of "the Pentium 4 processor or later" (R154; log entry 39). -/
def Cfg.serialNumberRetired (c : Cfg) : Bool :=
  !c.implements 1 || Machine.field (c.raw 1 0).eax 11 8 != 0xF || c.pentium4OrLater

/-- On a processor without extended functions the EAX that `CPUID` returns for 80000000H, that of the highest basic leaf, is
below 80000000H (R421, D19; log entry 42): the listed constants of that leaf, and those of leaf 02H where
IA32_MISC_ENABLE[22] can make it the highest. -/
def Cfg.lastLeafBelowExtended (c : Cfg) : Bool :=
  c.hasExtended ||
    ((c.table.all fun e => e.leaf != c.maxBasicWord || !(Machine.bit e.regs.eax 31)) &&
      (!(c.limitRemovable && decide (2#32 ≤ c.maxBasicWord) && c.supports 2) || !(Machine.bit (c.raw 2 0).eax 31)))

/-- A configuration that satisfies every relation the leaf rules state between constants. -/
def Cfg.admissible (c : Cfg) : Bool :=
  c.leaf02Defined && c.cachesTyped && c.topologyReported && c.topologyV2Reported && c.componentsDisjoint
    && c.socBrandPresent && c.pconfigTyped && c.announcedPresent && c.fixedCountersInRange && c.brandTerminated
    && c.brandIndexRetired && c.tlbsLevelled && c.socBrandPadded && c.serialNumberRetired && c.lastLeafBelowExtended

/-- An admissible configuration, paired with the proof that it is one. The default is the processor that reports leaf
00H alone; it only shows that there is an admissible configuration. -/
structure AdmissibleCfg where
  cfg : Cfg := {}
  ok  : cfg.admissible = true := by rfl
deriving Inhabited

/-- FREE VALUE: the processor the model is reset on. It is some admissible configuration, and nothing else can be
proved of it (R8, D1, U3; log entry 2). -/
opaque Config.processor : AdmissibleCfg

end Sys2Proof
end

