-- ==== Sys2Proof/Decode.lean ====
section
/-! DEFINITION. The decoder, total on any bytes, and the encoder (spec/30_encoding.md). -/

namespace Sys2Proof

/-- Why bytes decode to no instruction. -/
inductive DecodeError where
  /-- The bytes given end inside what may be an instruction of the spec. -/
  | truncated
  /-- A prefix other than LOCK comes first (R75). -/
  | otherPrefix (first : Byte)
  /-- The bytes are not an instruction of the spec (R79). -/
  | notCpuid
deriving DecidableEq, Repr, Inhabited

/-- The first opcode byte (R70). -/
def escapeByte : Byte := 0x0F
/-- The second opcode byte (R70). -/
def opcodeByte : Byte := 0xA2
/-- The LOCK prefix; its byte value is not in the source (R74, GK1; log entry 7). -/
def lockByte : Byte := 0xF0

/-- The bytes that are a prefix other than LOCK: operand-size, address-size, segment override, repeat, REX. Their values
are not in the source; they only choose which refusal is given (R75, N23; log entry 8). -/
def isOtherPrefix (b : Byte) : Bool :=
  [0x66, 0x67, 0x26, 0x2E, 0x36, 0x3E, 0x64, 0x65, 0xF2, 0xF3].contains b || b &&& 0xF0 == 0x40

/-- The opcode bytes, with what to answer when they are there (R70, R79). -/
def decodeOpcode (i : Instr) : List Byte → Except DecodeError Instr
  | [] => .error .truncated
  | [b] => if b = escapeByte then .error .truncated else .error .notCpuid
  | b :: c :: _ => if b = escapeByte ∧ c = opcodeByte then .ok i else .error .notCpuid

/-- The decoder (R70, R74, R75, R79): `0F A2` is `CPUID`, `F0 0F A2` is `LOCK CPUID`, and it guesses nothing else. -/
def decode : List Byte → Except DecodeError Instr
  | [] => .error .truncated
  | b :: rest =>
    if b = lockByte then decodeOpcode .lockCpuid rest
    else if isOtherPrefix b then .error (.otherPrefix b)
    else decodeOpcode .cpuid (b :: rest)

/-- The encoder: the bytes of an instruction in fetch order (R70, R74). -/
def encode : Instr → List Byte
  | .cpuid     => [escapeByte, opcodeByte]
  | .lockCpuid => [lockByte, escapeByte, opcodeByte]

/-- `ilen`: the length in bytes of the instruction as decoded (R13, R70, R74). -/
def Instr.ilen (i : Instr) : Nat := (encode i).length

/-- Byte `k` of a number, bits 7:0 being byte 0. -/
def numberByte (w k : Nat) : Byte := BitVec.ofNat 8 (w >>> (8 * k))

/-- The three bytes of a table word whose first byte is in bits 7:0. -/
def bytesLowFirst (nbits w : Nat) : List Byte :=
  (List.range 3).map fun k => if 8 * k < nbits then numberByte w k else 0

/-- The three bytes of a table word whose first byte is in its top eight bits: fetch order (R71). -/
def bytesFetchOrder (nbits w : Nat) : List Byte :=
  (List.range 3).map fun k => if 8 * k < nbits then numberByte w (nbits / 8 - 1 - k) else 0

/-- The bytes of a word of opcode_table.json. The table gives every row in two numberings (R71): fetch order ("match",
"fixed") and the little-endian load. A word that is an instruction in fetch order is laid out so, and every other word
with its first byte in bits 7:0; no word is an instruction in both (log entry 31). -/
def tableBytes (nbits w : Nat) : List Byte :=
  match decode (bytesFetchOrder nbits w) with
  | .ok _    => bytesFetchOrder nbits w
  | .error _ => bytesLowFirst nbits w

/-- The instruction the decoder reads from a word of the opcode table. -/
def decodeTableWord (nbits w : Nat) : Option Instr :=
  match decode (tableBytes nbits w) with
  | .ok i    => some i
  | .error _ => none

end Sys2Proof
end

