-- ==== Sys2Proof/Machine/State.lean ====
section
/-! DEFINITION. The state of one logical processor as plain data, the reasons a step can stop, and the state after
reset (spec/10_state.md; INVENTORY.md, heading State). -/

namespace Sys2Proof.Machine

/-- Memory: (address, byte) pairs with rising addresses. An address that is not listed holds no byte the model knows
(log entry 4). -/
abbrev Mem := List Host.Cell

/-- The state of one logical processor. -/
structure State where
  /-- RAX, 64 bits; on a processor that is not Intel 64 its bits 31:0 are EAX and the rest is 0 (R20, R21; log entry 34). -/
  rax : Word64
  /-- RBX (R20, R21). -/
  rbx : Word64
  /-- RCX (R20, R21). -/
  rcx : Word64
  /-- RDX (R20, R21). -/
  rdx : Word64
  /-- The address of the instruction being executed, prefixes included (R25). -/
  pc : Word64
  /-- EFLAGS/RFLAGS; bit 21 is the ID flag (R26, R27). -/
  rflags : Word64
  /-- The current privilege level, 0 the most privileged (R471). -/
  cpl : Nat
  /-- Whether the processor is in 64-bit mode (R9, R424). -/
  mode64 : Bool
  /-- CR4.OSXSAVE, bit 18 of CR4 (R28). -/
  cr4Osxsave : Bool
  /-- CR4.PKE, a bit of CR4 whose position the source does not give (R28, R232, N21; log entry 27). -/
  cr4Pke : Bool
  /-- XCR0 (R29). -/
  xcr0 : Word64
  /-- IA32_XSS (R30). -/
  xss : Word64
  /-- IA32_MISC_ENABLE; bit 22 limits the basic leaves (R31). -/
  miscEnable : Word64
  /-- IA32_BIOS_SIGN_ID; bits 63:32 are the microcode update signature (R32). -/
  biosSignId : Word64
  /-- IA32_PLATFORM_DCA_CAP, the MSR at address 1F8H (R33). -/
  dcaCap : Word64
  /-- The processor serial number feature is enabled (R9, R154, N28). -/
  psnEnabled : Bool
  /-- AES Key Locker is enabled (R9, R350, N28). -/
  aeskle : Bool
  /-- The memory the instruction stream is fetched from (R35, R51). -/
  mem : Mem
  /-- Stores of earlier instructions not yet written to memory, oldest first: the "pending modifications" of R36 as far
  as memory goes (R55, R56; log entry 12). -/
  storeBuffer : List Host.Cell
  /-- Instruction bytes fetched before their instruction is executed (R55 point 2, D17; log entry 12). -/
  prefetched : List Host.Cell
  /-- THE MODEL'S OWN, not the spec's: how many free values the run has drawn (log entry 10). -/
  freeIndex : Nat
  /-- The configuration of the processor, which no step writes (R8; log entry 1). -/
  cfg : Cfg
deriving DecidableEq, Repr, Inhabited

/-- Why a step stops with a fault. -/
inductive Fault where
  /-- `#UD`, the invalid-opcode exception (R460): raised by `CPUID` with the LOCK prefix (R461) and by `CPUID` on a
  processor without the instruction (R462). It carries the state it leaves, in which nothing is changed and the pc
  addresses the faulting instruction. Terminal, since the source describes no delivery (D3): safe. -/
  | ud (left : State)
  /-- The fetch found no byte at this address: memory the model knows nothing of, where the enclosing machine's own
  fetch faults would lie (R51, R463, D10). Raised by `step`; safe. -/
  | noInstructionByte (address : Nat)
deriving DecidableEq, Repr, Inhabited

/-- Why a step has no meaning in this model. -/
inductive Refusal where
  /-- An instruction without a meaning yet; raised by no arm. Safe. -/
  | notModelled (mnemonic : String)
  /-- The bytes begin with a prefix other than LOCK, to which the source gives no meaning (R75, D9, U21). Raised by
  `step`; safe. -/
  | prefixNotInSource (first : Byte)
  /-- The bytes are neither `0F A2` nor `F0 0F A2`, so the instruction is outside the spec (R79, D9, U21). Raised by
  `step`; safe. -/
  | notCpuid
  /-- The instruction, or the pc after it, reaches beyond the width of the pc: the spec gives no result for overflow and
  refuses (R25, D2, U30; log entry 5). Raised by `step`; safe. -/
  | pcOverflow
deriving DecidableEq, Repr, Inhabited

/-- The state after reset. The spec gives one value: IA32_MISC_ENABLE[22] = 0 (R31, R37). Every other value is the
model's: the family's where it has one (log entry 3), else log entries 2, 35 and 37. Memory lists nothing and no program
is loaded (log entries 4 and 32). -/
def State.reset : State where
  rax := 0
  rbx := 0
  rcx := 0
  rdx := (Config.processor.cfg.raw 1 0).eax.setWidth 64
  pc := 0xFFFFFFF0
  rflags := 2
  cpl := 0
  mode64 := false
  cr4Osxsave := false
  cr4Pke := false
  xcr0 := 1 &&& Config.processor.cfg.xcr0Mask
  xss := 0
  miscEnable := 0
  biosSignId := 0
  dcaCap := 0
  psnEnabled := false
  aeskle := false
  mem := []
  storeBuffer := []
  prefetched := []
  freeIndex := 0
  cfg := { Config.processor.cfg with cpuidSupported := true, pcWidth := 32 }

end Sys2Proof.Machine
end

