-- ==== Sys2Proof/Machine/Flags.lean ====
section
/-! DEFINITION. The flags. "Flags Affected: None" (spec/10_state.md R26): no instruction computes a flag. What the spec
says of a flag is the ID flag and which software can change it (R27). -/

namespace Sys2Proof.Machine

/-- The ID flag, bit 21 of EFLAGS (R27). -/
def State.idFlag (s : State) : Bool := s.rflags.getLsbD 21

/-- A write of RFLAGS by software: the ID flag can be set and cleared if and only if the processor has `CPUID`; where it
has not, the bit keeps its value (R27, D18; log entry 28). The instructions that write EFLAGS are outside the source. THE MODEL'S CHOICE: every other bit is
stored as written, and the write takes effect at every privilege level (log entry 28). -/
def State.writeRflags (s : State) (v : Word64) : State :=
  if s.cfg.cpuidSupported then { s with rflags := v }
  else { s with rflags := (v &&& ~~~(0x200000#64)) ||| (s.rflags &&& 0x200000#64) }

end Sys2Proof.Machine
end

