-- ==== Sys2Proof/Machine/Layouts00.lean ====
section
/-! DEFINITION. The field tables of leaves 00H to 03H (spec/41_leaves_00_03.md). -/

namespace Sys2Proof.Machine

/-- Leaf 00H: the highest basic leaf and "GenuineIntel", read EBX, EDX, ECX (R140, R141, C1). -/
def layout00 : Layout where
  eax := [live 31 0 "Maximum Input Value for Basic CPUID Information" .effMaxBasic]
  ebx := [fixd 31 0 "Vendor string, characters 0 to 3" 0x756E6547]
  ecx := [fixd 31 0 "Vendor string, characters 8 to 11" 0x6C65746E]
  edx := [fixd 31 0 "Vendor string, characters 4 to 7" 0x49656E69]

/-- CPUID.01H:EAX, version information (R143). -/
def layout01Eax : List Field :=
  [fld 3 0 "Stepping ID", fld 7 4 "Model", fld 11 8 "Family", fld 13 12 "Processor Type", rsvd 15 14,
   fld 19 16 "Extended Model ID", fld 27 20 "Extended Family ID", rsvd 31 28]

/-- CPUID.01H:EBX (R148, R150, C2). -/
def layout01Ebx : List Field :=
  [fld 7 0 "Brand Index", fld 15 8 "CLFLUSH line size",
   fld 23 16 "Maximum number of addressable IDs for logical processors in this physical package",
   live 31 24 "Initial APIC ID" .initialApicId]

/-- CPUID.01H:ECX, Table 3-19 (R151, R152). -/
def layout01Ecx : List Field :=
  [flag 0 "SSE3", flag 1 "PCLMULQDQ", flag 2 "DTES64", flag 3 "MONITOR", flag 4 "DS-CPL", flag 5 "VMX", flag 6 "SMX",
   flag 7 "EIST", flag 8 "TM2", flag 9 "SSSE3", flag 10 "CNXT-ID", flag 11 "SDBG", flag 12 "FMA", flag 13 "CMPXCHG16B",
   flag 14 "xTPR Update Control", flag 15 "PDCM", rsvd 16 16, flag 17 "PCID", flag 18 "DCA", flag 19 "SSE4_1",
   flag 20 "SSE4_2", flag 21 "x2APIC", flag 22 "MOVBE", flag 23 "POPCNT", flag 24 "TSC-Deadline", flag 25 "AESNI",
   flag 26 "XSAVE", live 27 27 "OSXSAVE" .osxsave, flag 28 "AVX", flag 29 "F16C", flag 30 "RDRAND",
   fixd 31 31 "Not Used" 0]

/-- CPUID.01H:EDX, Table 3-20 (R153, R154). -/
def layout01Edx : List Field :=
  [flag 0 "FPU", flag 1 "VME", flag 2 "DE", flag 3 "PSE", flag 4 "TSC", flag 5 "MSR", flag 6 "PAE", flag 7 "MCE",
   flag 8 "CX8", flag 9 "APIC", rsvd 10 10, flag 11 "SEP", flag 12 "MTRR", flag 13 "PGE", flag 14 "MCA", flag 15 "CMOV",
   flag 16 "PAT", flag 17 "PSE-36", live 18 18 "PSN" .psn, flag 19 "CLFSH", rsvd 20 20, flag 21 "DS", flag 22 "ACPI",
   flag 23 "MMX", flag 24 "FXSR", flag 25 "SSE", flag 26 "SSE2", flag 27 "SS", flag 28 "HTT", flag 29 "TM", rsvd 30 30,
   flag 31 "PBE"]

/-- Leaf 01H: version, brand index, APIC ID and feature flags (R142). -/
def layout01 : Layout := ⟨layout01Eax, layout01Ebx, layout01Ecx, layout01Edx⟩

/-- Leaf 02H: cache, TLB and prefetch descriptors, AL = 01H (R160). The validity bit of each register is bit 31, which
lies in the top descriptor byte. -/
def layout02 : Layout where
  eax := [fixd 7 0 "01H" 1, fld 15 8 "Descriptor", fld 23 16 "Descriptor", fld 31 24 "Descriptor"]
  ebx := [fld 7 0 "Descriptor", fld 15 8 "Descriptor", fld 23 16 "Descriptor", fld 31 24 "Descriptor"]
  ecx := [fld 7 0 "Descriptor", fld 15 8 "Descriptor", fld 23 16 "Descriptor", fld 31 24 "Descriptor"]
  edx := [fld 7 0 "Descriptor", fld 15 8 "Descriptor", fld 23 16 "Descriptor", fld 31 24 "Descriptor"]

/-- Leaf 03H: processor serial number (R170). -/
def layout03 : Layout where
  eax := wholeReserved
  ebx := wholeReserved
  ecx := wholeConst "Processor serial number, bits 31:0"
  edx := wholeConst "Processor serial number, bits 63:32"

end Sys2Proof.Machine
end

