-- ==== Sys2Proof/Machine/Layouts04.lean ====
section
/-! DEFINITION. The field tables of leaves 04H to 07H (spec/42_leaves_04_07.md). -/

namespace Sys2Proof.Machine

/-- Leaf 04H, a sub-leaf that describes a cache (R201 to R204). -/
def layout04 : Layout where
  eax := [fld 4 0 "Cache Type Field", fld 7 5 "Cache Level", flag 8 "Self Initializing cache level",
          flag 9 "Fully Associative cache", rsvd 13 10,
          fld 25 14 "Maximum number of addressable IDs for logical processors sharing this cache, minus one",
          live 31 26 "Maximum number of addressable IDs for processor cores in the physical package, minus one" .coreIds]
  ebx := [fld 11 0 "L = System Coherency Line Size, minus one", fld 21 12 "P = Physical Line partitions, minus one",
          fld 31 22 "W = Ways of associativity, minus one"]
  ecx := wholeConst "S = Number of Sets, minus one"
  edx := [flag 0 "Write-Back Invalidate/Invalidate", flag 1 "Cache Inclusiveness", flag 2 "Complex Cache Indexing",
          zeros 31 3]

/-- Leaf 04H, the null sub-leaf: only the type is stated (R200, D24). -/
def layout04Null : Layout where
  eax := [fixd 4 0 "Cache Type Field: Null" 0, rsvd 31 5]
  ebx := wholeReserved
  ecx := wholeReserved
  edx := wholeReserved

/-- Leaf 05H: MONITOR/MWAIT (R210). -/
def layout05 : Layout where
  eax := [fld 15 0 "Smallest monitor-line size in bytes", zeros 31 16]
  ebx := [fld 15 0 "Largest monitor-line size in bytes", zeros 31 16]
  ecx := [flag 0 "Enumeration of Monitor-Mwait extensions supported",
          flag 1 "Supports treating interrupts as break-event for MWAIT, even when interrupts disabled", rsvd 31 2]
  edx := [fld 3 0 "Number of C0 sub C-states", fld 7 4 "Number of C1 sub C-states", fld 11 8 "Number of C2 sub C-states",
          fld 15 12 "Number of C3 sub C-states", fld 19 16 "Number of C4 sub C-states",
          fld 23 20 "Number of C5 sub C-states", fld 27 24 "Number of C6 sub C-states",
          fld 31 28 "Number of C7 sub C-states"]

/-- Leaf 06H: thermal and power management (R215 to R218, C17). -/
def layout06 : Layout where
  eax := [flag 0 "Digital temperature sensor", flag 1 "Intel Turbo Boost Technology", flag 2 "ARAT", rsvd 3 3,
          flag 4 "PLN", flag 5 "ECMD", flag 6 "PTM", flag 7 "HWP", flag 8 "HWP_Notification",
          flag 9 "HWP_Activity_Window", flag 10 "HWP_Energy_Performance_Preference", flag 11 "HWP_Package_Level_Request",
          rsvd 12 12, flag 13 "HDC", flag 14 "Intel Turbo Boost Max Technology 3.0", flag 15 "HWP Capabilities",
          flag 16 "HWP PECI override", flag 17 "Flexible HWP", flag 18 "Fast access mode IA32_HWP_REQUEST",
          flag 19 "HW_FEEDBACK", flag 20 "Ignoring Idle Logical Processor HWP request", rsvd 21 21,
          flag 22 "HWP Control MSR Support", flag 23 "Intel Thread Director", flag 24 "IA32_THERM_INTERRUPT bit 25",
          rsvd 31 25]
  ebx := [fld 3 0 "Number of Interrupt Thresholds in Digital Thermal Sensor", rsvd 31 4]
  ecx := [flag 0 "Hardware Coordination Feedback Capability", zeros 2 1, flag 3 "Performance-energy bias preference",
          zeros 7 4, fld 15 8 "Number of Intel Thread Director classes", zeros 31 16]
  edx := [flag 0 "Performance capability reporting", live 1 1 "Energy efficiency capability reporting" .hfiPair, rsvd 7 2,
          fld 11 8 "Size of the hardware feedback interface structure in 4 KB pages, minus one", rsvd 15 12,
          fld 31 16 "Index of this logical processor's row in the hardware feedback interface structure"]

/-- CPUID.(07H,0):EBX (R231). -/
def layout07Ebx : List Field :=
  [flag 0 "FSGSBASE", flag 1 "IA32_TSC_ADJUST", flag 2 "SGX", flag 3 "BMI1", flag 4 "HLE", flag 5 "AVX2",
   flag 6 "FDP_EXCPTN_ONLY", flag 7 "SMEP", flag 8 "BMI2", flag 9 "Enhanced REP MOVSB/STOSB", flag 10 "INVPCID",
   flag 11 "RTM", flag 12 "RDT-M", flag 13 "Deprecates FPU CS and FPU DS", flag 14 "MPX", flag 15 "RDT-A",
   flag 16 "AVX512F", flag 17 "AVX512DQ", flag 18 "RDSEED", flag 19 "ADX", flag 20 "SMAP", flag 21 "AVX512_IFMA",
   rsvd 22 22, flag 23 "CLFLUSHOPT", flag 24 "CLWB", flag 25 "Intel Processor Trace", flag 26 "AVX512PF",
   flag 27 "AVX512ER", flag 28 "AVX512CD", flag 29 "SHA", flag 30 "AVX512BW", flag 31 "AVX512VL"]

/-- CPUID.(07H,0):ECX (R232, R233). -/
def layout07Ecx : List Field :=
  [flag 0 "PREFETCHWT1", flag 1 "AVX512_VBMI", flag 2 "UMIP", flag 3 "PKU", live 4 4 "OSPKE" .ospke, flag 5 "WAITPKG",
   flag 6 "AVX512_VBMI2", flag 7 "CET_SS", flag 8 "GFNI", flag 9 "VAES", flag 10 "VPCLMULQDQ", flag 11 "AVX512_VNNI",
   flag 12 "AVX512_BITALG", flag 13 "TME_EN", flag 14 "AVX512_VPOPCNTDQ", rsvd 15 15, flag 16 "LA57", fld 21 17 "MAWAU",
   flag 22 "RDPID and IA32_TSC_AUX", flag 23 "KL", flag 24 "BUS_LOCK_DETECT", flag 25 "CLDEMOTE", rsvd 26 26,
   flag 27 "MOVDIRI", flag 28 "MOVDIR64B", flag 29 "ENQCMD", flag 30 "SGX_LC", flag 31 "PKS"]

/-- CPUID.(07H,0):EDX (R234, R235). -/
def layout07Edx : List Field :=
  [rsvd 0 0, flag 1 "SGX-KEYS", flag 2 "AVX512_4VNNIW", flag 3 "AVX512_4FMAPS", flag 4 "Fast Short REP MOV",
   flag 5 "UINTR", rsvd 7 6, flag 8 "AVX512_VP2INTERSECT", flag 9 "SRBDS_CTRL", flag 10 "MD_CLEAR",
   flag 11 "RTM_ALWAYS_ABORT", rsvd 12 12, flag 13 "RTM_FORCE_ABORT", flag 14 "SERIALIZE", flag 15 "Hybrid",
   flag 16 "TSXLDTRK", rsvd 17 17, flag 18 "PCONFIG", flag 19 "Architectural LBRs", flag 20 "CET_IBT", rsvd 21 21,
   flag 22 "AMX-BF16", flag 23 "AVX512_FP16", flag 24 "AMX-TILE", flag 25 "AMX-INT8", flag 26 "IBRS and IBPB",
   flag 27 "STIBP", flag 28 "L1D_FLUSH", flag 29 "IA32_ARCH_CAPABILITIES", flag 30 "IA32_CORE_CAPABILITIES",
   flag 31 "SSBD"]

/-- Leaf 07H sub-leaf 0 (R231 to R234). -/
def layout07s0 : Layout :=
  ⟨wholeConst "Maximum input value for supported leaf 7 sub-leaves", layout07Ebx, layout07Ecx, layout07Edx⟩

/-- Leaf 07H sub-leaf 1 (R236 to R238). -/
def layout07s1 : Layout where
  eax := [flag 0 "SHA512", flag 1 "SM3", flag 2 "SM4", rsvd 3 3, flag 4 "AVX-VNNI", flag 5 "AVX512_BF16", flag 6 "LASS",
          flag 7 "CMPCCXADD", flag 8 "ArchPerfmonExt", rsvd 9 9, flag 10 "Fast zero-length REP MOVSB",
          flag 11 "Fast short REP STOSB", flag 12 "Fast short REP CMPSB, REP SCASB", rsvd 18 13, flag 19 "WRMSRNS",
          rsvd 20 20, flag 21 "AMX-FP16", flag 22 "HRESET", flag 23 "AVX-IFMA", rsvd 25 24, flag 26 "LAM",
          flag 27 "MSRLIST", rsvd 29 28, flag 30 "INVD_DISABLE_POST_BIOS_DONE", rsvd 31 31]
  ebx := [flag 0 "IA32_PPIN and IA32_PPIN_CTL", rsvd 2 1, flag 3 "CPUIDMAXVAL_LIM_RMV", rsvd 31 4]
  ecx := wholeReserved
  edx := [rsvd 3 0, flag 4 "AVX-VNNI-INT8", flag 5 "AVX-NE-CONVERT", rsvd 9 6, flag 10 "AVX-VNNI-INT16", rsvd 13 11,
          flag 14 "PREFETCHI", rsvd 16 15, flag 17 "UIRET_UIF", flag 18 "CET_SSS", flag 19 "AVX10", rsvd 31 20]

/-- Leaf 07H sub-leaf 2 (R239). -/
def layout07s2 : Layout where
  eax := wholeReserved
  ebx := wholeReserved
  ecx := wholeReserved
  edx := [flag 0 "PSFD", flag 1 "IPRED_CTRL", flag 2 "RRSBA_CTRL", flag 3 "DDPD_U", flag 4 "BHI_CTRL", flag 5 "MCDT_NO",
          flag 6 "UC-lock disable", flag 7 "MONITOR_MITG_NO", rsvd 31 8]

end Sys2Proof.Machine
end

