-- ==== Sys2Proof/Machine/Layouts14.lean ====
section
/-! DEFINITION. The field tables of leaves 14H to 24H (spec/44_leaves_14_24.md). -/

namespace Sys2Proof.Machine

/-- Leaf 14H sub-leaf 0, Intel Processor Trace (R331, R332). -/
def layout14s0 : Layout where
  eax := wholeConst "Maximum sub-leaf supported in leaf 14H"
  ebx := [flag 0 "CR3Filter and IA32_RTIT_CR3_MATCH", flag 1 "Configurable PSB and Cycle-Accurate Mode",
          flag 2 "IP Filtering, TraceStop filtering, MSR preservation", flag 3 "MTC timing packet", flag 4 "PTWRITE",
          flag 5 "Power Event Trace", flag 6 "PSB and PMI preservation", flag 7 "Event Trace", flag 8 "DisTNT",
          rsvd 31 9]
  ecx := [flag 0 "ToPA output scheme", flag 1 "ToPA tables hold any number of output entries",
          flag 2 "Single-Range Output scheme", flag 3 "Output to Trace Transport subsystem", rsvd 30 4,
          flag 31 "IP payloads have LIP values"]
  edx := wholeReserved

/-- Leaf 14H sub-leaf 1 (R333). -/
def layout14s1 : Layout where
  eax := [fld 2 0 "Number of configurable Address Ranges for filtering", rsvd 15 3,
          fld 31 16 "Bitmap of supported MTC period encodings"]
  ebx := [fld 15 0 "Bitmap of supported Cycle Threshold value encodings",
          fld 31 16 "Bitmap of supported Configurable PSB frequency encodings"]
  ecx := wholeReserved
  edx := wholeReserved

/-- Leaf 15H with ECX = 0: TSC and core crystal clock (R335). -/
def layout15 : Layout where
  eax := wholeConst "Denominator of the TSC/core crystal clock ratio"
  ebx := wholeConst "Numerator of the TSC/core crystal clock ratio"
  ecx := wholeConst "Nominal frequency of the core crystal clock in Hz"
  edx := wholeZero

/-- Leaf 16H: processor frequency information (R338). -/
def layout16 : Layout where
  eax := [fld 15 0 "Processor Base Frequency (in MHz)", zeros 31 16]
  ebx := [fld 15 0 "Maximum Frequency (in MHz)", zeros 31 16]
  ecx := [fld 15 0 "Bus (Reference) Frequency (in MHz)", zeros 31 16]
  edx := wholeReserved

/-- Leaf 17H sub-leaf 0: SOC vendor attributes (R341). -/
def layout17s0 : Layout where
  eax := wholeConst "MaxSOCID_Index"
  ebx := [fld 15 0 "SOC Vendor ID", flag 16 "IsVendorScheme", zeros 31 17]
  ecx := wholeConst "Project ID"
  edx := wholeConst "Stepping ID"

/-- Leaf 17H sub-leaves 1 to 3: SOC Vendor Brand String (R342). -/
def layout17Brand : Layout where
  eax := wholeConst "SOC Vendor Brand String"
  ebx := wholeConst "SOC Vendor Brand String"
  ecx := wholeConst "SOC Vendor Brand String"
  edx := wholeConst "SOC Vendor Brand String"

/-- EBX and EDX of a valid sub-leaf of leaf 18H (R346, R347, C6). -/
def layout18Ebx : List Field :=
  [flag 0 "4K page size entries supported", flag 1 "2MB page size entries supported", flag 2 "4MB page size entries supported",
   flag 3 "1 GB page size entries supported", rsvd 7 4, fld 10 8 "Partitioning", rsvd 15 11,
   fld 31 16 "W = Ways of associativity"]
def layout18Edx : List Field :=
  [fld 4 0 "Translation cache type field", fld 7 5 "Translation cache level", flag 8 "Fully associative structure",
   rsvd 13 9,
   fld 25 14 "Maximum number of addressable IDs for logical processors sharing this translation cache, minus one",
   rsvd 31 26]

/-- Leaf 18H sub-leaf 0, when valid (R346, R347). -/
def layout18s0 : Layout :=
  ⟨wholeConst "Maximum input value of supported sub-leaf in leaf 18H", layout18Ebx, wholeConst "S = Number of Sets", layout18Edx⟩

/-- Leaf 18H, a valid sub-leaf above 0 (R346, R347). -/
def layout18 : Layout := ⟨wholeReserved, layout18Ebx, wholeConst "S = Number of Sets", layout18Edx⟩

/-- Leaf 19H: Key Locker (R350). -/
def layout19 : Layout where
  eax := [flag 0 "Key Locker restriction of CPL0-only", flag 1 "Key Locker restriction of no-encrypt",
          flag 2 "Key Locker restriction of no-decrypt", rsvd 31 3]
  ebx := [live 0 0 "AESKLE" .aeskle, rsvd 1 1, flag 2 "AES wide Key Locker instructions", rsvd 3 3,
          flag 4 "Key Locker MSRs", rsvd 31 5]
  ecx := [flag 0 "NoBackup parameter to LOADIWKEY", flag 1 "KeySource encoding of 1", rsvd 31 2]
  edx := wholeReserved

/-- Leaf 1AH with ECX = 0: native model ID (R355). -/
def layout1A : Layout where
  eax := [fld 23 0 "Native model ID of the core", fld 31 24 "Core type"]
  ebx := wholeReserved
  ecx := wholeReserved
  edx := wholeReserved

/-- Leaf 1BH, a valid sub-leaf: the type and three target identifiers (R365; log entry 26). -/
def layout1B : Layout where
  eax := wholeConst "Sub-leaf type"
  ebx := wholeConst "Target identifier"
  ecx := wholeConst "Target identifier"
  edx := wholeConst "Target identifier"

/-- Leaf 1CH: last branch records (R368). -/
def layout1C : Layout where
  eax := [fld 7 0 "Supported LBR Depth Values", rsvd 29 8, flag 30 "Deep C-state Reset", flag 31 "IP Values Contain LIP"]
  ebx := [flag 0 "CPL Filtering Supported", flag 1 "Branch Filtering Supported", flag 2 "Call-stack Mode Supported",
          rsvd 31 3]
  ecx := [flag 0 "Mispredict Bit Supported", flag 1 "Timed LBRs Supported", flag 2 "Branch Type Field Supported",
          rsvd 15 3, fld 19 16 "Event Logging Supported bitmap", rsvd 31 20]
  edx := wholeReserved

/-- Leaf 1DH sub-leaf 0: every value fixed (R370). -/
def layout1Ds0 : Layout := ⟨[fixd 31 0 "max_palette" 1], wholeZero, wholeZero, wholeZero⟩

/-- Leaf 1DH sub-leaf 1, tile palette 1: every value fixed (R371). -/
def layout1Ds1 : Layout where
  eax := [fixd 15 0 "total_tile_bytes" 8192, fixd 31 16 "bytes_per_tile" 1024]
  ebx := [fixd 15 0 "bytes_per_row" 64, fixd 31 16 "max_names" 8]
  ecx := [fixd 15 0 "max_rows" 16, zeros 31 16]
  edx := wholeZero

/-- Leaf 1EH sub-leaf 0, TMUL: every value fixed (R373). -/
def layout1Es0 : Layout where
  eax := wholeZero
  ebx := [fixd 7 0 "tmul_maxk" 16, fixd 23 8 "tmul_maxn" 64, zeros 31 24]
  ecx := wholeZero
  edx := wholeZero

/-- Leaf 1FH, a valid sub-leaf (R376 to R379). -/
def layout1F : Layout :=
  ⟨topologyEax, topologyEbx,
   [live 7 0 "Input ECX sub-leaf index" .subIndexLow, live 15 8 "Domain Type" .domainType, rsvd 31 16], topologyEdx⟩

/-- Leaf 20H with ECX = 0: processor history reset (R385). -/
def layout20 : Layout where
  eax := wholeConst "Maximum number of sub-leaves supported in leaf 20H"
  ebx := [flag 0 "HRESET EAX[0] and IA32_HRESET_ENABLE[0]", zeros 31 1]
  ecx := wholeReserved
  edx := wholeReserved

/-- Leaf 23H sub-leaf 0: architectural performance monitoring, extended (R396). -/
def layout23s0 : Layout where
  eax := wholeConst "Sub-leaf bitmap"
  ebx := [flag 0 "UnitMask2 supported", flag 1 "EQ-bit supported", rsvd 31 2]
  ecx := [fld 7 0 "Number of TMA slots per cycle", rsvd 31 8]
  edx := wholeReserved

/-- Leaf 23H sub-leaf 1 (R397). -/
def layout23s1 : Layout :=
  ⟨wholeConst "General counters bitmap", wholeConst "Fixed counters bitmap", wholeReserved, wholeReserved⟩

/-- Leaf 23H sub-leaf 2, Auto Counter Reload (R398). -/
def layout23s2 : Layout :=
  ⟨wholeConst "ACR general counters that can be reloaded", wholeConst "ACR fixed counters that can be reloaded",
   wholeConst "ACR general counters that can cause reloads", wholeConst "ACR fixed counters that can cause reloads"⟩

/-- Leaf 23H sub-leaf 3, the events bitmap (R399). -/
def layout23s3 : Layout where
  eax := [flag 0 "Core cycles", flag 1 "Instructions retired", flag 2 "Reference cycles", flag 3 "Last level cache references",
          flag 4 "Last level cache misses", flag 5 "Branch instructions retired", flag 6 "Branch mispredicts retired",
          flag 7 "Topdown slots", flag 8 "Topdown backend bound", flag 9 "Topdown bad speculation",
          flag 10 "Topdown frontend bound", flag 11 "Topdown retiring", flag 12 "LBR inserts", rsvd 31 13]
  ebx := wholeReserved
  ecx := wholeReserved
  edx := wholeReserved

/-- Leaf 24H with ECX = 0: AVX10 converged vector ISA (R405). -/
def layout24 : Layout where
  eax := wholeConst "Maximum number of sub-leaves supported in leaf 24H"
  ebx := [fld 7 0 "Intel AVX10 Converged Vector ISA version", rsvd 15 8, flag 16 "128-bit vector support",
          flag 17 "256-bit vector support", flag 18 "512-bit vector support", rsvd 31 19]
  ecx := wholeReserved
  edx := wholeReserved

end Sys2Proof.Machine
end

