-- ==== Sys2Proof/Machine/LayoutsExt.lean ====
section
/-! DEFINITION. The field tables of leaves 80000000H to 80000008H (spec/45_leaves_extended.md). -/

namespace Sys2Proof.Machine

/-- Leaf 80000000H (R421). -/
def layoutE0 : Layout :=
  ⟨[live 31 0 "Maximum Input Value for Extended Function CPUID Information" .maxExt], wholeReserved, wholeReserved,
   wholeReserved⟩

/-- Leaf 80000001H: the signature and the extended feature flags (R422 to R424, C3). -/
def layoutE1 : Layout where
  eax := wholeConst "Extended Processor Signature and Feature Bits"
  ebx := wholeReserved
  ecx := [flag 0 "LAHF/SAHF available in 64-bit mode", rsvd 4 1, flag 5 "LZCNT", rsvd 7 6, flag 8 "PREFETCHW", rsvd 31 9]
  edx := [rsvd 10 0, live 11 11 "SYSCALL/SYSRET" .syscall, zeros 19 12, flag 20 "Execute Disable Bit available",
          zeros 25 21, flag 26 "1-GByte pages", flag 27 "RDTSCP and IA32_TSC_AUX", zeros 28 28,
          live 29 29 "Intel 64 Architecture available" .intel64, zeros 31 30]

/-- Leaves 80000002H to 80000004H: processor brand string (R425, R426). -/
def layoutBrand : Layout where
  eax := wholeConst "Processor Brand String"
  ebx := wholeConst "Processor Brand String Continued"
  ecx := wholeConst "Processor Brand String Continued"
  edx := wholeConst "Processor Brand String Continued"

/-- Leaf 80000005H (R430). -/
def layoutE5 : Layout := ⟨wholeZero, wholeZero, wholeZero, wholeZero⟩

/-- Leaf 80000006H: cache information (R431). -/
def layoutE6 : Layout where
  eax := wholeZero
  ebx := wholeZero
  ecx := [fld 7 0 "Cache Line size in bytes", rsvd 11 8, fld 15 12 "L2 Associativity field",
          fld 31 16 "Cache size in 1K units"]
  edx := wholeZero

/-- Leaf 80000007H: invariant TSC (R432, C9). -/
def layoutE7 : Layout where
  eax := wholeZero
  ebx := wholeZero
  ecx := wholeZero
  edx := [zeros 7 0, flag 8 "Invariant TSC available", zeros 31 9]

/-- Leaf 80000008H: address sizes; the guest field is 0 on an Intel processor (R433). -/
def layoutE8 : Layout where
  eax := [fld 7 0 "Physical Address Bits", fld 15 8 "Linear Address Bits", fixd 23 16 "Guest Physical Address Bits" 0,
          zeros 31 24]
  ebx := [zeros 8 0, flag 9 "WBNOINVD", zeros 31 10]
  ecx := wholeZero
  edx := wholeZero

end Sys2Proof.Machine
end

