-- ==== Sys2Proof/Machine/LeafData.lean ====
section
/-! DEFINITION. What `CPUID` returns: leaf selection (spec/40_cpuid_instruction.md R101 to R105, R111) and the data of
every leaf and sub-leaf (files 41 to 45). -/

namespace Sys2Proof.Machine

/-- IA32_MISC_ENABLE[22] as `CPUID` reads it: hardwired 0 where CPUIDMAXVAL_LIM_RMV is 1 (R31, R103). -/
def State.maxLeafLimited (s : State) : Bool := s.miscEnable.getLsbD 22 && s.cfg.limitRemovable

/-- `EffMaxBasic` (R103; log entry 14). -/
def State.effMaxBasic (s : State) : Word32 :=
  if s.maxLeafLimited then (if s.cfg.maxBasicWord ≤ 2 then s.cfg.maxBasicWord else 2) else s.cfg.maxBasicWord

/-- `Select(leaf)`: which leaf's data is returned (R101). All comparisons are unsigned on 32 bits. -/
def State.select (s : State) (leaf : Word32) : Word32 :=
  if leaf ≤ s.effMaxBasic then leaf
  else if 0x80000000#32 ≤ leaf ∧ leaf ≤ s.cfg.maxExt then leaf
  else s.effMaxBasic

/-- The leaves whose output depends on ECX (R111): the first three classes of its table. -/
def LeafId.usesSubleaf : LeafId → Bool
  | .b04 | .b07 | .b0B | .b0D | .b12 | .b18 | .b1B | .b1F | .b23 => true
  | .b0F | .b10 | .b14 | .b17 | .b1D | .b1E | .b20 | .b24 | .b1A => true
  | .b15 => true
  | .b00 | .b01 | .b02 | .b03 | .b05 | .b06 | .b08 | .b09 | .b0A | .b0C | .b0E | .b16 | .b19 | .b1C | .b21 => false
  | .e0 | .e1 | .e2 | .e3 | .e4 | .e5 | .e6 | .e7 | .e8 | .other => false

/-- `Valid0D(n)` (R290). -/
def validXsaveSub (c : Cfg) (n : Word32) : Bool :=
  if n ≤ 1 then true
  else if n < 32 then bit c.xcr0Low n.toNat || bit c.xssLow n.toNat
  else if n < 64 then bit c.xcr0High (n.toNat - 32) || bit c.xssHigh (n.toNat - 32)
  else false

/-- The values of the fields that are read at execution or fixed by another field, for a leaf whose constants are `raw`
and a sub-leaf number `sub`. -/
def State.dynValue (s : State) (sub : Word32) (raw : Quad) : DynField → Word32
  | .effMaxBasic    => s.effMaxBasic
  | .initialApicId  => s.cfg.lp.initialApicId.setWidth 32
  | .osxsave        => wordOfBool s.cr4Osxsave
  | .psn            => wordOfBool (bit raw.edx 18 && s.psnEnabled && !s.cfg.pentium4OrLater)
  | .coreIds        => (s.cfg.raw 4 0).eax >>> 26
  | .hfiPair        => raw.edx
  | .ospke          => wordOfBool s.cr4Pke
  | .dcaCap         => s.dcaCap.setWidth 32
  | .subIndexLow    => sub
  | .x2apicId       => s.cfg.lp.x2apicId
  | .domainType     => BitVec.ofNat 32 (s.cfg.domainTypes.getD sub.toNat 0)
  | .xsaveSize      => s.cfg.xsaveSize s.xcr0
  | .xsaveCompactSize =>
    if bit raw.eax 3 then s.cfg.compactSize (s.xcr0 ||| s.xss)
    else if bit raw.eax 1 then s.cfg.compactSize s.xcr0
    else 0
  | .xsaveOffset    => if s.cfg.xcr0Mask.getLsbD sub.toNat && !(s.cfg.xssMask.getLsbD sub.toNat) then raw.ebx else 0
  | .xssManaged     => wordOfBool (s.cfg.xssMask.getLsbD sub.toNat)
  | .aeskle         => wordOfBool s.aeskle
  | .maxExt         => s.cfg.maxExt
  | .syscall        => wordOfBool (bit raw.edx 11 && s.mode64)
  | .intel64        => wordOfBool s.cfg.intel64

/-- The values of a leaf and sub-leaf with the layout `l`. -/
def State.page (s : State) (leaf sub : Word32) (l : Layout) : Quad :=
  l.render (s.cfg.raw leaf sub) (s.dynValue sub (s.cfg.raw leaf sub))

/-- Leaf 04H, cache `n` (R200): a cache below `k`, the null sub-leaf at `k`, zeros above (log entry 23). -/
def State.leaf04 (s : State) (n : Word32) : Quad :=
  if n.toNat < s.cfg.cacheCount then s.page 4 n layout04
  else if n.toNat = s.cfg.cacheCount then s.page 4 n layout04Null
  else Quad.zero

/-- Leaf 07H, sub-leaf `n` (R230). -/
def State.leaf07 (s : State) (n : Word32) : Quad :=
  if n = 0 then s.page 7 0 layout07s0
  else if (s.cfg.raw 7 0).eax < n then Quad.zero
  else if n = 1 then s.page 7 1 layout07s1
  else if n = 2 then s.page 7 2 layout07s2
  else s.cfg.raw 7 n

/-- Leaf 0BH, sub-leaf `n` (R280 to R285; log entry 21). -/
def State.leaf0B (s : State) (n : Word32) : Quad :=
  if n = 0 then s.page 0xB 0 (layout0B 1)
  else if n = 1 then s.page 0xB 1 (layout0B 2)
  else if n.toNat < 2 + s.cfg.extraDomains then s.page 0xB n layout0BExtra
  else s.page 0xB n layoutNoDomain

/-- Leaf 0DH, sub-leaf `n` (R290 to R297). -/
def State.leaf0D (s : State) (n : Word32) : Quad :=
  if n = 0 then s.page 0xD 0 layout0Ds0
  else if n = 1 then s.page 0xD 1 layout0Ds1
  else if validXsaveSub s.cfg n then s.page 0xD n layout0DComponent
  else Quad.zero

/-- Leaf 0FH, sub-leaf `n`: an invalid ResID and a ResID above 1 have no stated result (R300; log entry 25). -/
def State.leaf0F (s : State) (n : Word32) : Quad :=
  if n = 0 then s.page 0xF 0 layout0Fs0
  else if n = 1 ∧ bit (s.cfg.raw 0xF 0).edx 1 then s.page 0xF 1 layout0Fs1
  else s.cfg.raw 0xF n

/-- Leaf 10H, sub-leaf `n`: an invalid ResID and a ResID above 3 have no stated result (R305; log entry 25). -/
def State.leaf10 (s : State) (n : Word32) : Quad :=
  if n = 0 then s.page 0x10 0 layout10s0
  else if n = 1 ∧ bit (s.cfg.raw 0x10 0).ebx 1 then s.page 0x10 1 layout10s1
  else if n = 2 ∧ bit (s.cfg.raw 0x10 0).ebx 2 then s.page 0x10 2 layout10s2
  else if n = 3 ∧ bit (s.cfg.raw 0x10 0).ebx 3 then s.page 0x10 3 layout10s3
  else s.cfg.raw 0x10 n

/-- Leaf 12H, sub-leaf `n` (R315 to R318): sub-leaves 2 and up by their type, EAX[3:0]. -/
def State.leaf12 (s : State) (n : Word32) : Quad :=
  if n = 0 then s.page 0x12 0 layout12s0
  else if n = 1 then s.page 0x12 1 layout12s1
  else if field (s.cfg.raw 0x12 n).eax 3 0 = 0 then Quad.zero
  else if field (s.cfg.raw 0x12 n).eax 3 0 = 1 then
    if field (s.cfg.raw 0x12 n).ecx 3 0 = 0 then s.page 0x12 n layout12EpcNoProperty else s.page 0x12 n layout12Epc
  else s.cfg.raw 0x12 n

/-- Leaf 14H, sub-leaf `n`: valid up to CPUID.(14H,0):EAX; above it no result is stated (R330, C5; log entry 25). -/
def State.leaf14 (s : State) (n : Word32) : Quad :=
  if n = 0 then s.page 0x14 0 layout14s0
  else if n = 1 ∧ 1#32 ≤ (s.cfg.raw 0x14 0).eax then s.page 0x14 1 layout14s1
  else s.cfg.raw 0x14 n

/-- Leaf 17H, sub-leaf `n` (R340). -/
def State.leaf17 (s : State) (n : Word32) : Quad :=
  if n = 0 then s.page 0x17 0 layout17s0
  else if n ≤ 3 then s.page 0x17 n layout17Brand
  else if (s.cfg.raw 0x17 0).eax < n then Quad.zero
  else s.cfg.raw 0x17 n

/-- Leaf 18H, sub-leaf `n` (R345; log entry 24). -/
def State.leaf18 (s : State) (n : Word32) : Quad :=
  if s.cfg.maxTlbSub < n then Quad.zero
  else if field (s.cfg.raw 0x18 n).edx 4 0 = 0 then
    if n = 0 then { Quad.zero with eax := s.cfg.maxTlbSub } else Quad.zero
  else if n = 0 then s.page 0x18 0 layout18s0
  else s.page 0x18 n layout18

/-- Leaf 1BH, sub-leaf `n` (R365). -/
def State.leaf1B (s : State) (n : Word32) : Quad :=
  if n.toNat < s.cfg.pconfigCount then s.page 0x1B n layout1B else Quad.zero

/-- Leaf 1DH, sub-leaf `n`: sub-leaves 2 and above are reserved without a value (R370, R371; log entry 25). -/
def State.leaf1D (s : State) (n : Word32) : Quad :=
  if n = 0 then s.page 0x1D 0 layout1Ds0
  else if n = 1 then s.page 0x1D 1 layout1Ds1
  else s.cfg.raw 0x1D n

/-- Leaf 1FH, sub-leaf `n` (R375 to R380; log entry 22). -/
def State.leaf1F (s : State) (n : Word32) : Quad :=
  if n.toNat < s.cfg.domainTypes.length then s.page 0x1F n layout1F else s.page 0x1F n layoutNoDomain

/-- Leaf 23H, sub-leaf `n`: bit `n` of CPUID.(23H,0):EAX says whether it is supported (R395). -/
def State.leaf23 (s : State) (n : Word32) : Quad :=
  if n = 0 then s.page 0x23 0 layout23s0
  else if n < 32 ∧ bit (s.cfg.raw 0x23 0).eax n.toNat then
    if n = 1 then s.page 0x23 1 layout23s1
    else if n = 2 then s.page 0x23 2 layout23s2
    else if n = 3 then s.page 0x23 3 layout23s3
    else s.cfg.raw 0x23 n
  else Quad.zero

/-- A leaf for which the source lays out only ECX = 0; another ECX has no stated result (R111, D14; log entry 25). -/
def State.mainOnly (s : State) (leaf n : Word32) (l : Layout) : Quad :=
  if n = 0 then s.page leaf 0 l else s.cfg.raw leaf n

/-- `Cfg.leaf(sel, sub, Dyn, lp)`: the data of a supported leaf (R8, R102). -/
def State.leafValues (s : State) (sel n : Word32) : Quad :=
  match LeafId.ofWord sel with
  | .b00 => s.page 0x00 0 layout00
  | .b01 => s.page 0x01 0 layout01
  | .b02 => s.page 0x02 0 layout02
  | .b03 => s.page 0x03 0 layout03
  | .b04 => s.leaf04 n
  | .b05 => s.page 0x05 0 layout05
  | .b06 => s.page 0x06 0 layout06
  | .b07 => s.leaf07 n
  | .b08 => Quad.zero
  | .b09 => s.page 0x09 0 layout09
  | .b0A => s.page 0x0A 0 layout0A
  | .b0B => s.leaf0B n
  | .b0C => Quad.zero
  | .b0D => s.leaf0D n
  | .b0E => Quad.zero
  | .b0F => s.leaf0F n
  | .b10 => s.leaf10 n
  | .b12 => s.leaf12 n
  | .b14 => s.leaf14 n
  | .b15 => s.mainOnly 0x15 n layout15
  | .b16 => s.page 0x16 0 layout16
  | .b17 => s.leaf17 n
  | .b18 => s.leaf18 n
  | .b19 => s.page 0x19 0 layout19
  | .b1A => s.mainOnly 0x1A n layout1A
  | .b1B => s.leaf1B n
  | .b1C => s.page 0x1C 0 layout1C
  | .b1D => s.leaf1D n
  | .b1E => s.mainOnly 0x1E n layout1Es0
  | .b1F => s.leaf1F n
  | .b20 => s.mainOnly 0x20 n layout20
  | .b21 => Quad.zero
  | .b23 => s.leaf23 n
  | .b24 => s.mainOnly 0x24 n layout24
  | .e0  => s.page 0x80000000 0 layoutE0
  | .e1  => s.page 0x80000001 0 layoutE1
  | .e2  => s.page 0x80000002 0 layoutBrand
  | .e3  => s.page 0x80000003 0 layoutBrand
  | .e4  => s.page 0x80000004 0 layoutBrand
  | .e5  => s.page 0x80000005 0 layoutE5
  | .e6  => s.page 0x80000006 0 layoutE6
  | .e7  => s.page 0x80000007 0 layoutE7
  | .e8  => s.page 0x80000008 0 layoutE8
  | .other => s.cfg.raw sel 0

/-- `LeafData(sel, sub, Dyn, lp)`: zeros for a leaf the processor does not support (R102). -/
def State.leafData (s : State) (sel n : Word32) : Quad :=
  if s.cfg.supports sel then s.leafValues sel n else Quad.zero

/-- `UsesSubleaf(sel)`: true for the listed leaves, false for every unsupported one (R111). -/
def State.usesSubleaf (s : State) (sel : Word32) : Bool := s.cfg.supports sel && (LeafId.ofWord sel).usesSubleaf

/-- The sub-leaf number an execution with this ECX uses for the selected leaf (R100, R111). -/
def State.subFor (s : State) (sel ecx : Word32) : Word32 := if s.usesSubleaf sel then ecx else 0

/-- The four values an execution with the given EAX and ECX returns (R100). -/
def State.cpuidValues (s : State) (eax ecx : Word32) : Quad :=
  s.leafData (s.select eax) (s.subFor (s.select eax) ecx)

end Sys2Proof.Machine
end

