-- ==== Sys2Proof/Machine/Memory.lean ====
section
/-! DEFINITION. Memory: one byte read, one byte written, the canonical form, and the pending stores and prefetched
bytes that stand between memory and the fetch (spec/20_memory.md). -/

namespace Sys2Proof.Machine

/-- The byte at an address, none where nothing is listed (log entry 4). -/
def Mem.read : Mem → Nat → Option Byte
  | [], _ => none
  | (k, b) :: rest, a => if k = a then some b else Mem.read rest a

/-- Writes one byte and keeps the addresses rising. -/
def Mem.write : Mem → Nat → Byte → Mem
  | [], a, b => [(a, b)]
  | (k, c) :: rest, a, b =>
    if a < k then (a, b) :: (k, c) :: rest
    else if a = k then (a, b) :: rest
    else (k, c) :: Mem.write rest a b

/-- Every listed address is above `n`, and the addresses rise strictly. -/
def Mem.risesFrom : Option Nat → Mem → Bool
  | _, [] => true
  | none, (k, _) :: rest => Mem.risesFrom (some k) rest
  | some n, (k, _) :: rest => decide (n < k) && Mem.risesFrom (some k) rest

/-- The canonical form: addresses strictly rising. An unlisted address reads as no byte at all, so no entry can equal
what it reads as. -/
def Mem.wf (m : Mem) : Bool := Mem.risesFrom none m

/-- Performs the stores of a buffer, oldest first (R55 point 1). -/
def Mem.drain (m : Mem) (buffer : List Host.Cell) : Mem := buffer.foldl (fun acc c => acc.write c.1 c.2) m

/-- The byte of the newest entry for an address, in a list with the oldest first. -/
def newest : List Host.Cell → Nat → Option Byte
  | [], _ => none
  | (k, b) :: rest, a =>
    match newest rest a with
    | some later => some later
    | none       => if k = a then some b else none

/-- The byte at an address in program order: the newest pending store, else memory. -/
def State.readByte (s : State) (a : Nat) : Option Byte :=
  match newest s.storeBuffer a with
  | some b => some b
  | none   => s.mem.read a

/-- The byte the fetch gets. A byte fetched earlier is used. Otherwise the fetch reads memory, and where an earlier store
to the address is still pending, the source does not say whether the fetch sees it (N11; log entry 11). -/
def State.fetchByte (s : State) (a : Nat) : Option Byte :=
  match newest s.prefetched a with
  | some b => some b
  | none =>
    match newest s.storeBuffer a with
    | some b => if Config.fetchSeesStore s.cfg.lp.x2apicId s.freeIndex a then some b else s.mem.read a
    | none   => s.mem.read a

end Sys2Proof.Machine
end

