-- ==== Sys2Proof/Machine/Operands.lean ====
section
/-! DEFINITION. The operands: none is encoded (`Z0`, spec/30_encoding.md R72). The implicit sources are EAX and ECX, the
implicit destinations RAX, RBX, RCX, RDX (spec/10_state.md R20 to R23). -/

namespace Sys2Proof.Machine

/-- The four general registers `CPUID` names (R20). -/
inductive Reg where
  | rax | rbx | rcx | rdx
deriving DecidableEq, Repr, Inhabited

/-- `x[r]`: the register at its full width (R13, R21). -/
def State.reg (s : State) : Reg → Word64
  | .rax => s.rax
  | .rbx => s.rbx
  | .rcx => s.rcx
  | .rdx => s.rdx

/-- `x[r] <- v` at the full width (R13). -/
def State.setReg (s : State) (r : Reg) (v : Word64) : State :=
  match r with
  | .rax => { s with rax := v }
  | .rbx => { s with rbx := v }
  | .rcx => { s with rcx := v }
  | .rdx => { s with rdx := v }

/-- `x[r][31:0]`: EAX, EBX, ECX, EDX (R13, R20). -/
def State.reg32 (s : State) (r : Reg) : Word32 := (s.reg r).setWidth 32

/-- The leaf number: all 32 bits of EAX; bits 63:32 of RAX take no part (R22, D21). -/
def State.leafOperand (s : State) : Word32 := s.reg32 .rax

/-- The sub-leaf number: all 32 bits of ECX (R22, D21). -/
def State.subleafOperand (s : State) : Word32 := s.reg32 .rcx

/-- Writes a 32-bit result: zero-extended on an Intel 64 processor, which clears bits 63:32 in every mode (R23, R106); on
another processor the register is the 32 bits, and the container's upper half, which is no state, is 0 (R21, D8; log
entry 34). -/
def State.writeReg32 (s : State) (r : Reg) (v : Word32) : State := s.setReg r (v.setWidth 64)

/-- Writes the four results together (R100, R106). -/
def State.writeQuad (s : State) (q : Quad) : State :=
  (((s.writeReg32 .rax q.eax).writeReg32 .rbx q.ebx).writeReg32 .rcx q.ecx).writeReg32 .rdx q.edx

end Sys2Proof.Machine
end

