-- ==== Sys2Proof/Machine/Ops.lean ====
section
/-! DEFINITION. The named operations the meanings are made of: the program counter, the MSR writes, serialisation and
raising `#UD` (spec/40_cpuid_instruction.md R100, R106 to R110; spec/60_exceptions.md R460). The spec describes no
return from an exception (R468), so there is none beside it. -/

namespace Sys2Proof.Machine

/-- An address truncated to the width of the program counter (R25). -/
def truncatePc (width : Nat) (v : Word64) : Word64 := (v.setWidth width).setWidth 64

/-- The address `n` bytes after the pc fits the width of the pc (R25; log entry 5). -/
def State.pcFits (s : State) (n : Nat) : Bool := decide (s.pc.toNat + n < 2 ^ min s.cfg.pcWidth 64)

/-- The pc `n` bytes on. Where that does not fit the width the spec gives no result: a free value of the width, which no
step goes on from (R25, D2, U30; log entry 5). -/
def State.pcAfter (s : State) (n : Nat) : Word64 :=
  if s.pcFits n then s.pc + BitVec.ofNat 64 n
  else truncatePc s.cfg.pcWidth (Config.pcOverflow s.cfg.lp.x2apicId s.cfg.pcWidth (s.pc.toNat + n))

/-- `pc <- pc + ilen` (R25, R110). -/
def State.advance (s : State) (ilen : Nat) : State := { s with pc := s.pcAfter ilen }

/-- What a step answers when the execution of an instruction of `ilen` bytes answers `o`: an execution that would take the
pc beyond its width is refused by name, and so leaves no state (R25, D2, U30; log entry 5). -/
def State.refuseOverflow (s : State) (ilen : Nat) : (o : Host.Outcome State Fault Refusal) → Host.Outcome State Fault Refusal
  | .next t    => if s.pcFits ilen then .next t else .refused .pcOverflow
  | .fault f   => .fault f
  | .refused r => .refused r

/-- The address of byte `k` of the instruction at the pc (R51; log entry 5). -/
def State.fetchAddress (s : State) (k : Nat) : Nat := s.pc.toNat + k

/-- Loads IA32_BIOS_SIGN_ID on a processor that supports the microcode update facility: the update signature in bits
63:32 and an unconstrained value, drawn anew, in bits 31:0; elsewhere the MSR is not touched (R107; log entry 10). -/
def State.loadSignature (s : State) : State :=
  if s.cfg.microcodeFacility then
    { s with biosSignId := joinWords s.cfg.microcodeSignature (Config.freeSignatureLow s.cfg.lp.x2apicId s.freeIndex)
             freeIndex := s.freeIndex + 1 }
  else s

/-- `Serialize()`: every earlier store is performed and every byte fetched ahead is discarded (R55, R58, R109; log
entry 12). Earlier changes of flags and registers are in the state already. -/
def State.serialize (s : State) : State :=
  { s with mem := s.mem.drain s.storeBuffer, storeBuffer := [], prefetched := [] }

/-- `raise UD`: the step ends with `#UD`; nothing is changed, the pc still addresses the first byte of the instruction,
and no serialisation is promised (R460, R467, D3, D4; log entry 6). -/
def State.raiseUd (s : State) : Host.Outcome State Fault Refusal := .fault (.ud s)

/-- A write of IA32_MISC_ENABLE by software: bit 22 cannot be set where CPUIDMAXVAL_LIM_RMV is 1 (R31, R237). The
instruction that writes MSRs is outside the source. THE MODEL'S CHOICE: every other bit is stored as written on every
processor, bit 23 also where CPUID.01H:ECX[14] is 0, of which the source says nothing; and the write takes effect at every
privilege level, since which one it needs is not in the source (R472, N31, GK7; log entry 40). -/
def State.writeMiscEnable (s : State) (v : Word64) : State :=
  if s.cfg.limitRemovable then { s with miscEnable := v } else { s with miscEnable := v &&& ~~~(0x400000#64) }

end Sys2Proof.Machine
end

