-- ==== Sys2Proof/Machine/Cpuid.lean ====
section
/-! DEFINITION. The meanings of the two rows of the opcode table: `CPUID` (spec/40_cpuid_instruction.md R100) and its
LOCK-prefixed form (spec/60_exceptions.md R461). -/

namespace Sys2Proof.Machine

/-- What a non-faulting `CPUID` does (R100): the four values are computed from the state before any write; then the MSR
load, the four register writes, serialisation and the advance of the pc. -/
def State.completeCpuid (s : State) : State :=
  (((s.loadSignature).writeQuad (s.cpuidValues s.leafOperand s.subleafOperand)).serialize).advance Instr.cpuid.ilen

/-- `CPUID` (R100). It runs at every privilege level and in every mode (R73, R471), and raises `#UD` only on a processor
without the instruction (R462, R463). THE MODEL'S CHOICE: no breakpoint or single-step trap is taken on it, whatever TF in
RFLAGS holds; whether one can be is not in the source (R478; log entry 41). -/
def execCpuid (s : State) : Host.Outcome State Fault Refusal :=
  if s.cfg.cpuidSupported then .next s.completeCpuid else s.raiseUd

/-- `CPUID` with the LOCK prefix: always `#UD` (R461). -/
def execLockCpuid (s : State) : Host.Outcome State Fault Refusal := s.raiseUd

end Sys2Proof.Machine
end

