-- ==== Sys2Proof/Machine/Fetch.lean ====
section
/-! DEFINITION. Fetching an instruction's bytes, and placing one where the next fetch finds it (spec/20_memory.md R51,
R53, R58). -/

namespace Sys2Proof.Machine

/-- The bytes the fetch gets from byte `k` of the instruction on, at most `n`, up to the first address without one or the
end of the pc's width. -/
def State.fetchFrom (s : State) : (n k : Nat) → List Byte
  | 0, _ => []
  | n + 1, k =>
    if s.pcFits k then
      match s.fetchByte (s.fetchAddress k) with
      | some b => b :: s.fetchFrom n (k + 1)
      | none   => []
    else []

/-- The bytes at the pc: three, the longest instruction, or fewer where memory holds none (R51). -/
def State.fetchWindow (s : State) : List Byte := s.fetchFrom 3 0

/-- What a step answers when the fetched bytes end inside what may be an instruction: no byte is there, or the next one lies
beyond the width of the pc (R51, U30; log entries 4 and 5). -/
def State.fetchEnds (s : State) : Host.Outcome State Fault Refusal :=
  if s.pcFits s.fetchWindow.length then .fault (.noInstructionByte (s.fetchAddress s.fetchWindow.length))
  else .refused .pcOverflow

/-- Stores bytes into memory at the pc, and takes away pending stores and prefetched bytes at the same addresses, so
that the next fetch gets these. -/
def State.placeAt (s : State) : (bytes : List Byte) → (k : Nat) → State
  | [], _ => s
  | b :: rest, k =>
    State.placeAt
      { s with mem := s.mem.write (s.fetchAddress k) b
               storeBuffer := s.storeBuffer.filter fun c => c.1 != s.fetchAddress k
               prefetched := s.prefetched.filter fun c => c.1 != s.fetchAddress k }
      rest (k + 1)

end Sys2Proof.Machine
end

