-- ==== Sys2Proof/Machine/Step.lean ====
section
/-! DEFINITION. One step: fetch, decode, execute (spec/00_scope.md R18, R19). -/

namespace Sys2Proof.Machine

/-- One step of the logical processor. What the decoder does not read is refused by name, and so is a step whose pc would go
beyond its width; an instruction whose bytes are not all there stops the fetch (R19, R25, R51, R75, R79, U30). -/
def step (s : State) : Host.Outcome State Fault Refusal :=
  match decode s.fetchWindow with
  | .ok i                   => s.refuseOverflow i.ilen (exec i s)
  | .error .truncated       => s.fetchEnds
  | .error (.otherPrefix b) => .refused (.prefixNotInSource b)
  | .error .notCpuid        => .refused .notCpuid

/-- The state with the instruction of a table word stored where the next step fetches; bits above `nbits` are 0. -/
def State.withFetchWord (s : State) (nbits w : Nat) : State := s.placeAt (tableBytes nbits w) 0

end Sys2Proof.Machine
end

