-- ==== Sys2Proof/Machine/Software.lean ====
section
/-! DEFINITION. The software procedures the source gives over the output of `CPUID` (spec/00_scope.md R6 item 7): they are
no behaviour of the instruction. -/

namespace Sys2Proof.Machine

/-- The least power of 2 that is not smaller than `n`, by doubling `p` at most `fuel` times. -/
def doubleUntil (n : Nat) : (fuel p : Nat) → Nat
  | 0, p => p
  | fuel + 1, p => if n ≤ p then p else doubleUntil n fuel (2 * p)

/-- "The nearest power-of-2 integer that is not smaller than n"; 1 for n = 0 (R16, D22; log entry 29). -/
def nearestPow2 (n : Nat) : Nat := doubleUntil n n 1

/-- "Add one to the return value to get the result" (R15). -/
def addOne (v : Word32) (hi lo : Nat) : Nat := field v hi lo + 1

/-! Leaf 01H. -/

/-- Table 3-18, the processor type CPUID.01H:EAX[13:12] (R144). -/
inductive ProcessorType where
  | originalOem | overDrive | dual | intelReserved
deriving DecidableEq, Repr, Inhabited

def processorType (signature : Word32) : ProcessorType :=
  match field signature 13 12 with
  | 0 => .originalOem
  | 1 => .overDrive
  | 2 => .dual
  | _ => .intelReserved

/-- DisplayFamily, an integer sum without wrap (R145). -/
def displayFamily (signature : Word32) : Nat :=
  if field signature 11 8 ≠ 0xF then field signature 11 8 else field signature 27 20 + field signature 11 8

/-- DisplayModel; the condition tests the raw family field (R146). -/
def displayModel (signature : Word32) : Nat :=
  if field signature 11 8 = 6 ∨ field signature 11 8 = 0xF then field signature 19 16 * 16 + field signature 7 4
  else field signature 7 4

/-- The stepping ID (R143). -/
def steppingId (signature : Word32) : Nat := field signature 3 0

/-- The cache line size in bytes that CLFLUSH flushes (R148). -/
def clflushLineBytes (ebx : Word32) : Nat := field ebx 15 8 * 8

/-- How many initial APIC IDs the package reserves: valid with HTT = 1, else a single one (R150, U7). -/
def reservedApicIds (ebx edx : Word32) : Nat := if bit edx 28 then nearestPow2 (field ebx 23 16) else 1

/-! Leaf 02H. -/

/-- The descriptors of one register from byte `first` on: none when bit 31 is 1, and no null descriptor (R163). -/
def registerDescriptors (r : Word32) (first : Nat) : List Byte :=
  if bit r 31 then [] else ((bytesOf r).drop first).filter fun d => d != 0

/-- The decoding procedure of leaf 02H; the order means nothing (R160, R163). -/
def leaf02Descriptors (q : Quad) : List Byte :=
  registerDescriptors q.eax 1 ++ registerDescriptors q.ebx 0 ++ registerDescriptors q.ecx 0 ++ registerDescriptors q.edx 0

/-- What Table 3-21 says of the descriptors of leaf 02H (R161). -/
def leaf02Meanings (q : Quad) : List (Option Descriptor) := (leaf02Descriptors q).map descriptorOf

/-! Leaf 04H. -/

/-- The cache type field of leaf 04H (R201). -/
inductive CacheType where
  | null | data | instruction | unified | reserved
deriving DecidableEq, Repr, Inhabited

def cacheType (eax : Word32) : CacheType :=
  match field eax 4 0 with
  | 0 => .null
  | 1 => .data
  | 2 => .instruction
  | 3 => .unified
  | _ => .reserved

/-- The level of a cache, from 1 on (R201). -/
def cacheLevel (eax : Word32) : Nat := field eax 7 5

/-- "This Cache Size in Bytes", an unbounded product (R205). -/
def cacheSizeBytes (ebx ecx : Word32) : Nat :=
  addOne ebx 31 22 * addOne ebx 21 12 * addOne ebx 11 0 * (ecx.toNat + 1)

/-- Initial APIC IDs reserved for the logical processors sharing the cache (R201). -/
def cacheSharingIds (eax : Word32) : Nat := nearestPow2 (addOne eax 25 14)

/-- Core_IDs reserved in the physical package (R201). -/
def packageCoreIds (eax : Word32) : Nat := nearestPow2 (addOne eax 31 26)

/-- The caches software finds: sub-leaves from `n` on until one has type 0, at most `fuel` of them (R206). -/
def enumerateCaches (query : Word32 → Quad) : (fuel n : Nat) → List Quad
  | 0, _ => []
  | fuel + 1, n =>
    if field (query (BitVec.ofNat 32 n)).eax 4 0 = 0 then []
    else query (BitVec.ofNat 32 n) :: enumerateCaches query fuel (n + 1)

/-! Leaf 06H. -/

/-- The size of the hardware feedback interface structure, in pages of 4 KB and in bytes (R15, R218). -/
def feedbackPages (edx : Word32) : Nat := addOne edx 11 8
def feedbackBytes (edx : Word32) : Nat := feedbackPages edx * 4096

/-! Leaves 0AH and 23H. -/

/-- Architectural performance monitoring is supported if the version ID is greater than 0 (R270). -/
def perfmonSupported (eax : Word32) : Bool := Nat.ble 1 (field eax 7 0)

/-- "Architectural event x is supported if EBX[x]=0 && EAX[31:24]>x." (R270, R271). -/
def eventSupported (eax ebx : Word32) (x : Nat) : Bool := !(bit ebx x) && Nat.blt x (field eax 31 24)

/-- Fixed-function counter `i`: its mask bit is set, or its index is below the contiguous count. The connective is not in
the source (R272, C18, GK12; log entry 29). THE MODEL'S CHOICE: the formula of R272 is taken as it is printed, for every
version ID, although the count has no stated meaning where the version ID is at most 1 (R273; log entry 44). -/
def fixedCounterSupported (ecx edx : Word32) (i : Nat) : Bool := bit ecx i || Nat.blt i (field edx 4 0)

/-! Leaves 0BH and 1FH. -/

/-- Detecting leaf 0BH or 1FH: the maximum basic leaf reaches it, and EBX[15:0] is not 0 (R286, R381). -/
def topologyDetected (maxLeaf leaf : Word32) (ebx : Word32) : Bool := decide (leaf ≤ maxLeaf) && field ebx 15 0 != 0

/-- The identifier of the next higher-scoped domain's instance: the x2APIC ID shifted right (R281, R376). -/
def domainInstance (eax edx : Word32) : Nat := edx.toNat >>> field eax 4 0

/-! Leaf 0DH. -/

/-- The source's enumeration loop: the sub-leaves from 2 to 62 whose bit of EDX:EAX is 1, with their outputs (R298, C4). -/
def enumerateXcr0Components (query : Word32 → Quad) : List (Nat × Quad) :=
  ((List.range 61).map (· + 2)).filterMap fun i =>
    if (joinWords (query 0).edx (query 0).eax).getLsbD i then some (i, query (BitVec.ofNat 32 i)) else none

/-! Leaves 0FH to 1CH. -/

/-- The width of the L3 monitoring counters: 24 + EAX[7:0] (R302). -/
def rdtCounterWidth (eax : Word32) : Nat := 24 + field eax 7 0

/-- The length of a capacity bit mask (R307, R308). -/
def capacityMaskLength (eax : Word32) : Nat := addOne eax 4 0

/-- The maximum MBA throttling value (R309). -/
def mbaThrottleMax (eax : Word32) : Nat := addOne eax 11 0

/-- The largest enclave outside 64-bit mode and in it (R316). -/
def maxEnclaveNot64 (edx : Word32) : Nat := 2 ^ field edx 7 0
def maxEnclave64 (edx : Word32) : Nat := 2 ^ field edx 15 8

/-- The 128-bit mask EDX:ECX:EBX:EAX of SECS.ATTRIBUTES (R317). -/
def secsAttributes (q : Quad) : BitVec 128 := joinWords q.edx q.ecx ++ joinWords q.ebx q.eax

/-- Base and size of an EPC section (R318). -/
def epcBase (q : Quad) : Nat := field q.ebx 19 0 * 2 ^ 32 + field q.eax 31 12 * 2 ^ 12
def epcSize (q : Quad) : Nat := field q.edx 19 0 * 2 ^ 32 + field q.ecx 31 12 * 2 ^ 12

/-- The ratio of the TSC frequency and the core crystal clock frequency as numerator and denominator: "not enumerated" where
EBX is 0 (R336, U22). THE MODEL'S CHOICE (log entry 44): none where EAX = 0 and EBX is not 0, which the source gives no
meaning. -/
def tscRatio (q : Quad) : Option (Nat × Nat) :=
  if q.ebx = 0 ∨ q.eax = 0 then none else some (q.ebx.toNat, q.eax.toNat)

/-- The nominal core crystal clock frequency in Hz: "not enumerated" where ECX is 0 (R336, U22). -/
def crystalHz (q : Quad) : Option Nat := if q.ecx = 0 then none else some q.ecx.toNat

/-- The TSC frequency in Hz as numerator and denominator: crystal clock frequency * EBX/EAX, where the leaf enumerates both
(R336). -/
def tscFrequency (q : Quad) : Option (Nat × Nat) :=
  match crystalHz q, tscRatio q with
  | some hz, some (num, den) => some (hz * num, den)
  | _, _                     => none

/-- The translation cache type field of leaf 18H, the main-leaf list for every sub-leaf (R347, C6). -/
inductive TranslationCacheType where
  | null | dataTlb | instructionTlb | unifiedTlb | loadOnlyTlb | storeOnlyTlb | reserved
deriving DecidableEq, Repr, Inhabited

def translationCacheType (edx : Word32) : TranslationCacheType :=
  match field edx 4 0 with
  | 0 => .null
  | 1 => .dataTlb
  | 2 => .instructionTlb
  | 3 => .unifiedTlb
  | 4 => .loadOnlyTlb
  | 5 => .storeOnlyTlb
  | _ => .reserved

/-- The level of a translation cache, from 1 on (R347). -/
def translationCacheLevel (edx : Word32) : Nat := field edx 7 5

/-- Initial APIC IDs sharing a translation cache (R347). -/
def tlbSharingIds (edx : Word32) : Nat := addOne edx 25 14

/-- Core types of leaf 1AH (R355). -/
inductive CoreType where
  | intelAtom | intelCore | reserved | notStated
deriving DecidableEq, Repr, Inhabited

def coreType (eax : Word32) : CoreType :=
  match field eax 31 24 with
  | 0x20 => .intelAtom
  | 0x40 => .intelCore
  | 0x10 => .reserved
  | 0x30 => .reserved
  | _    => .notStated

/-- Leaf 1AH exists if CPUID.0.MAXLEAF is at least 1AH and CPUID.1A.EAX is not 0 (R355). -/
def nativeModelLeafExists (maxLeaf eax1A : Word32) : Bool := decide (0x1A#32 ≤ maxLeaf) && eax1A != 0

/-- The target identifiers of PCONFIG: the values of EBX, ECX, EDX that are not 0 (R365). -/
def pconfigTargets (q : Quad) : List Word32 := [q.ebx, q.ecx, q.edx].filter fun t => t != 0

/-- The LBR depths: 8*(n+1) for each bit n of EAX[7:0] (R368). -/
def lbrDepths (eax : Word32) : List Nat := ((List.range 8).filter fun n => bit eax n).map fun n => 8 * (n + 1)

/-! Extended leaves and branding. -/

/-- The L2 associativity field of leaf 80000006H (R431). -/
inductive L2Associativity where
  | disabled | ways (n : Nat) | seeLeaf04 | fullyAssociative | reserved
deriving DecidableEq, Repr, Inhabited

def l2Associativity (ecx : Word32) : L2Associativity :=
  match field ecx 15 12 with
  | 0 => .disabled
  | 1 => .ways 1
  | 2 => .ways 2
  | 4 => .ways 4
  | 6 => .ways 8
  | 7 => .seeLeaf04
  | 8 => .ways 16
  | 10 => .ways 32
  | 11 => .ways 48
  | 12 => .ways 64
  | 13 => .ways 96
  | 14 => .ways 128
  | 15 => .fullyAssociative
  | _ => .reserved

/-- The physical address bits software can use: the field, less the key bits IA32_TME_ACTIVATE[35:32] when TME-MK is
enabled (R434). -/
def usablePhysicalBits (eax : Word32) (tmeMk : Option Nat) : Int :=
  match tmeMk with
  | none      => field eax 7 0
  | some keys => (field eax 7 0 : Int) - keys

/-- The guest physical address bits, which are the physical ones when the field is 0 (R433). -/
def guestPhysicalBits (eax : Word32) : Nat := if field eax 23 16 = 0 then field eax 7 0 else field eax 23 16

/-- The 48 bytes of a brand string held by three leaves or sub-leaves (R342, R426; log entry 29). -/
def brandBytes (first second third : Quad) : List Byte := first.bytes ++ second.bytes ++ third.bytes

/-- The processor brand string: the bytes before the first 00H (R426). -/
def brandString (first second third : Quad) : List Byte := (brandBytes first second third).takeWhile fun b => b != 0

/-- The SOC vendor brand string: the bytes before the padding (R342; log entry 43). -/
def socBrandString (first second third : Quad) : List Byte := brandString first second third

/-- The vendor identification string, read EBX, EDX, ECX (R52, R141). -/
def vendorString (q : Quad) : List Byte := bytesOf q.ebx ++ bytesOf q.edx ++ bytesOf q.ecx

/-- The brand string leaves are in range exactly when CPUID.80000000H:EAX is at least 80000004H (R428). -/
def brandStringSupported (maxExt : Word32) : Bool := decide (0x80000004#32 ≤ maxExt)

/-- Table 3-23: brand index and processor signature to brand string (R452). No string: 18H to 0FFH are RESERVED, and
05H, 0DH and 10H have no row. -/
def brandIndexString (index signature : Nat) : Option String :=
  match index with
  | 0x00 => some "This processor does not support the brand identification feature"
  | 0x01 => some "Intel(R) Celeron(R) processor"
  | 0x02 => some "Intel(R) Pentium(R) III processor"
  | 0x03 => if signature = 0x6B1 then some "Intel(R) Celeron(R) processor" else some "Intel(R) Pentium(R) III Xeon(R) processor"
  | 0x04 => some "Intel(R) Pentium(R) III processor"
  | 0x06 => some "Mobile Intel(R) Pentium(R) III processor-M"
  | 0x07 => some "Mobile Intel(R) Celeron(R) processor"
  | 0x08 => some "Intel(R) Pentium(R) 4 processor"
  | 0x09 => some "Intel(R) Pentium(R) 4 processor"
  | 0x0A => some "Intel(R) Celeron(R) processor"
  | 0x0B => if signature = 0xF13 then some "Intel(R) Xeon(R) processor MP" else some "Intel(R) Xeon(R) processor"
  | 0x0C => some "Intel(R) Xeon(R) processor MP"
  | 0x0E => if signature = 0xF13 then some "Intel(R) Xeon(R) processor" else some "Mobile Intel(R) Pentium(R) 4 processor-M"
  | 0x0F => some "Mobile Intel(R) Celeron(R) processor"
  | 0x11 => some "Mobile Genuine Intel(R) processor"
  | 0x12 => some "Intel(R) Celeron(R) M processor"
  | 0x13 => some "Mobile Intel(R) Celeron(R) processor"
  | 0x14 => some "Intel(R) Celeron(R) processor"
  | 0x15 => some "Mobile Genuine Intel(R) processor"
  | 0x16 => some "Intel(R) Pentium(R) M processor"
  | 0x17 => some "Mobile Intel(R) Celeron(R) processor"
  | _    => none

/-- Brand indices the table calls RESERVED (R452). -/
def brandIndexReserved (index : Nat) : Bool := Nat.ble 0x18 index && Nat.ble index 0xFF

/-- The ID-flag test of a processor that may predate the instruction: the flag can be set and cleared (R27, R492). -/
def idFlagToggles (write : Bool → Bool) : Bool := write true && !(write false)

end Sys2Proof.Machine
end

