-- ==== Sys2Proof/Safety.lean ====
section
/-! DEFINITION. What the claims mean by a legal state: the relations between the state and the configuration that the
rules state, kept by every step (spec/10_state.md, spec/43_leaves_09_12.md R291). -/

namespace Sys2Proof.Machine

/-- XCR0 has only bits that leaf 0DH reports: "XCR0[n] can be set to 1 only if EAX[n] is 1" (R291). -/
abbrev State.xcr0Legal (s : State) : Prop := s.xcr0 &&& ~~~s.cfg.xcr0Mask = 0

/-- IA32_XSS has only bits that leaf 0DH reports (R30, R296). -/
abbrev State.xssLegal (s : State) : Prop := s.xss &&& ~~~s.cfg.xssMask = 0

/-- On a processor that is not Intel 64, the containers of the four registers hold 32 bits, and there is no 64-bit mode
(R21, R424). -/
def State.widthLegal (s : State) : Prop :=
  s.cfg.intel64 = false →
    (∀ r : Reg, (s.reg r).toNat < 2 ^ 32) ∧ s.mode64 = false

/-- IA32_MISC_ENABLE[22] is 0 where it cannot be set (R31, R240). -/
abbrev State.limitLegal (s : State) : Prop := s.cfg.limitRemovable = false → s.miscEnable.getLsbD 22 = false

/-- CR4.OSXSAVE is 1 only on a processor with XSAVE, CPUID.01H:ECX[26] (R152); CR4.PKE only on one with PKU,
CPUID.(07H,0):ECX[3] (R232). -/
abbrev State.controlLegal (s : State) : Prop :=
  (s.cr4Osxsave = true → bit (s.cfg.raw 1 0).ecx 26 = true) ∧ (s.cr4Pke = true → bit (s.cfg.leaf7 0).ecx 3 = true)

/-- On a processor without extended functions whose highest basic leaf is 09H, bit 31 of IA32_PLATFORM_DCA_CAP is 0, since
leaf 09H returns it in the EAX that software sees for 80000000H (R265, R421; log entry 42). -/
abbrev State.dcaLegal (s : State) : Prop :=
  s.cfg.hasExtended = false → s.effMaxBasic = 9 → s.dcaCap.getLsbD 31 = false

/-- The pc fits the width of the pc (R25). -/
abbrev State.pcLegal (s : State) : Prop := s.pc.toNat < 2 ^ s.cfg.pcWidth

/-- A legal state: canonical memory, an admissible processor, and the register rules above. -/
structure State.Legal (s : State) : Prop where
  memory     : s.mem.wf = true
  processor  : s.cfg.admissible = true
  xcr0       : s.xcr0Legal
  xss        : s.xssLegal
  width      : s.widthLegal
  limit      : s.limitLegal
  control    : s.controlLegal
  pc         : s.pcLegal
  dca        : s.dcaLegal

/-- Executing `CPUID` in `s` completes, and leaves the four values of `q` in RAX, RBX, RCX, RDX, zero-extended (R100,
R106). -/
def State.Returns (s : State) (q : Quad) : Prop :=
  ∃ t, exec .cpuid s = .next t ∧ t.rax = q.eax.setWidth 64 ∧ t.rbx = q.ebx.setWidth 64 ∧ t.rcx = q.ecx.setWidth 64 ∧
    t.rdx = q.edx.setWidth 64

/-- `CPUID` is on this processor, and in `s` it selects leaf `leaf`, whatever the input in EAX was (R101). -/
abbrev State.Selects (s : State) (leaf : Word32) : Prop :=
  s.cfg.cpuidSupported = true ∧ s.select s.leafOperand = leaf

/-- `CPUID` is on this processor, and in `s` it returns the data of `leaf`, which the processor supports (R101, R102). -/
abbrev State.Queries (s : State) (leaf : Word32) : Prop := s.Selects leaf ∧ s.cfg.supports leaf = true

/-- The two states agree on the processor and on every run-time input of R9. The registers, the pc, the flags, the
privilege level, memory and IA32_BIOS_SIGN_ID may differ. -/
structure State.SameInputs (s s' : State) : Prop where
  cfg        : s.cfg = s'.cfg
  osxsave    : s.cr4Osxsave = s'.cr4Osxsave
  pke        : s.cr4Pke = s'.cr4Pke
  xcr0       : s.xcr0 = s'.xcr0
  xss        : s.xss = s'.xss
  limit      : s.miscEnable.getLsbD 22 = s'.miscEnable.getLsbD 22
  dcaCap     : s.dcaCap.setWidth 32 = s'.dcaCap.setWidth 32
  mode64     : s.mode64 = s'.mode64
  aeskle     : s.aeskle = s'.aeskle
  psnEnabled : s.psnEnabled = s'.psnEnabled

/-- The same state with another sub-leaf number in ECX. -/
def State.withSub (s : State) (n : Word32) : State := s.writeReg32 .rcx n

end Sys2Proof.Machine
end

