-- ==== Sys2Proof/Certificates/Slice0/Obligations.lean ====
section
/-! DEFINITION. The statements for the provers (OBLIGATIONS.json lists them with the rules they formalise). A statement
about what `CPUID` returns concludes with `Returns`: the execution completes and leaves these four values. -/

open Sys2Proof Sys2Proof.Machine

/-! Encoding and the step. -/

/-- Decoding reads an instruction exactly from byte strings that begin with its encoding: no other bytes decode, and none
of the bytes of an encoding is ignored (R70, R74, R79; the byte F0H is log entry 7). -/
def Obligations.DecodeExactlyEncoded : Prop :=
  ∀ (bs : List Byte) (i : Instr), decode bs = .ok i ↔ ∃ rest, bs = encode i ++ rest

/-- In either byte order of R71, two bytes are `CPUID` exactly if their 16-bit number is the one R71 gives. -/
def Obligations.CpuidWordInBothByteOrders : Prop :=
  ∀ (b c : Byte) (rest : List Byte),
    (decode (b :: c :: rest) = .ok .cpuid ↔ b ++ c = 0x0FA2#16) ∧
      (decode (b :: c :: rest) = .ok .cpuid ↔ c ++ b = 0xA20F#16)

/-- The words of the opcode table, in both of its numberings, decode to their rows (R71; log entries 7 and 31). -/
def Obligations.TableWordsDecode : Prop :=
  decodeTableWord 16 0x0FA2 = some .cpuid ∧ decodeTableWord 16 0xA20F = some .cpuid ∧
    decodeTableWord 24 0xF00FA2 = some .lockCpuid ∧ decodeTableWord 24 0xA20FF0 = some .lockCpuid

/-- When the bytes at the pc are the encoding of an instruction, they decode to it, and one step is then the execution of
that instruction (R18, R51) wherever the address after it fits the width of the pc. Where it does not, a fault of the
execution is the fault of the step, and a next state is refused, since the spec gives no result for the overflow (U30,
log entry 5). -/
def Obligations.StepRunsInstructionAtPc : Prop :=
  (∀ (s : State) (i : Instr),
    (∀ k b, (encode i)[k]? = some b → s.pcFits k = true ∧ s.fetchByte (s.fetchAddress k) = some b) →
      decode s.fetchWindow = .ok i) ∧
  ∀ (s : State) (i : Instr), decode s.fetchWindow = .ok i →
    (s.pcFits i.ilen = true → step s = exec i s) ∧
    (∀ f, exec i s = .fault f → step s = .fault f) ∧
    (s.pcFits i.ilen = false → ∀ t, exec i s = .next t → step s = .refused .pcOverflow)

/-- Bytes at the pc that are neither `0F A2` nor begin with the LOCK byte are refused by name, and so are bytes after the
LOCK byte other than `0F A2`, however many bytes memory holds there; where the bytes end before it can be said, the
step stops with the fetch fault (log entry 4), or is refused at the end of the pc's width (log entry 5) (R75, R79; the
prefix bytes are log entries 7 and 8). -/
def Obligations.OtherBytesAreRefused : Prop :=
  ∀ s : State,
    (∀ b rest, s.fetchWindow = b :: rest → isOtherPrefix b = true → step s = .refused (.prefixNotInSource b)) ∧
    (∀ b c rest, s.fetchWindow = b :: c :: rest → b ≠ lockByte → isOtherPrefix b = false → (b, c) ≠ (0x0F, 0xA2) →
      step s = .refused .notCpuid) ∧
    (∀ b, s.fetchWindow = [b] → b ≠ lockByte → isOtherPrefix b = false → b ≠ 0x0F → step s = .refused .notCpuid) ∧
    (∀ c d rest, s.fetchWindow = lockByte :: c :: d :: rest → (c, d) ≠ (0x0F, 0xA2) → step s = .refused .notCpuid) ∧
    (∀ c, s.fetchWindow = [lockByte, c] → c ≠ 0x0F → step s = .refused .notCpuid) ∧
    (s.fetchWindow = [] ∨ s.fetchWindow = [0x0F] ∨ s.fetchWindow = [lockByte] ∨ s.fetchWindow = [lockByte, 0x0F] →
      (s.pcFits s.fetchWindow.length = true → step s = .fault (.noInstructionByte (s.pc.toNat + s.fetchWindow.length))) ∧
      (s.pcFits s.fetchWindow.length = false → step s = .refused .pcOverflow))

/-- THE MODEL'S CHOICE (log entry 4): a step whose first byte is nowhere in memory stops with the fetch fault at the pc. -/
def Obligations.EmptyMemoryStopsFetch : Prop :=
  ∀ s : State, s.pcLegal → s.fetchByte s.pc.toNat = none → step s = .fault (.noInstructionByte s.pc.toNat)

/-! The instruction as a whole. -/

/-- `CPUID` on a processor that has it completes for every leaf, sub-leaf, mode and privilege level. The next state has
the four results zero-extended (on a processor that is not Intel 64 the upper halves are no state, log entry 34); the pc
advanced by 2 where that fits its width, and else within its width, where the step is refused (log entry 5); the signature in the upper half of
IA32_BIOS_SIGN_ID where there is a microcode facility; no pending store and no prefetched byte (log entry 12); and the
rest as before. -/
def Obligations.CpuidCompletes : Prop :=
  ∀ s : State, s.cfg.cpuidSupported = true →
    ∃ t, exec .cpuid s = .next t ∧
      t.rax = (s.cpuidValues s.leafOperand s.subleafOperand).eax.setWidth 64 ∧
      t.rbx = (s.cpuidValues s.leafOperand s.subleafOperand).ebx.setWidth 64 ∧
      t.rcx = (s.cpuidValues s.leafOperand s.subleafOperand).ecx.setWidth 64 ∧
      t.rdx = (s.cpuidValues s.leafOperand s.subleafOperand).edx.setWidth 64 ∧
      (s.pcFits 2 = true → t.pc.toNat = s.pc.toNat + 2) ∧ t.pc.toNat < 2 ^ s.cfg.pcWidth ∧
      t.rflags = s.rflags ∧ t.cpl = s.cpl ∧ t.mode64 = s.mode64 ∧ t.cr4Osxsave = s.cr4Osxsave ∧ t.cr4Pke = s.cr4Pke ∧
      t.xcr0 = s.xcr0 ∧ t.xss = s.xss ∧ t.miscEnable = s.miscEnable ∧ t.dcaCap = s.dcaCap ∧
      t.psnEnabled = s.psnEnabled ∧ t.aeskle = s.aeskle ∧ t.cfg = s.cfg ∧ t.storeBuffer = [] ∧ t.prefetched = [] ∧
      (s.cfg.microcodeFacility = true → t.biosSignId.toNat / 2 ^ 32 = s.cfg.microcodeSignature.toNat) ∧
      (s.cfg.microcodeFacility = false → t.biosSignId = s.biosSignId) ∧
      ∀ a, t.readByte a = s.readByte a

/-- `CPUID` without LOCK stops only on a processor without the instruction, and is never refused. That the `#UD` leaves the
state as it was is the spec's own choice (D4, log entry 6). -/
def Obligations.CpuidFaultsOnlyIfUnsupported : Prop :=
  ∀ s : State,
    (∀ f, exec .cpuid s = .fault f → f = .ud s ∧ s.cfg.cpuidSupported = false) ∧ ∀ r, exec .cpuid s ≠ .refused r

/-- On a processor without the instruction every execution faults with `#UD` (R462), and no write of EFLAGS changes the ID
flag, which is the spec's own reading of "only if" (R27, D18; log entry 28). -/
def Obligations.UnsupportedProcessorFaults : Prop :=
  ∀ s : State, s.cfg.cpuidSupported = false →
    (∃ left, exec .cpuid s = .fault (.ud left)) ∧ ∀ v, (s.writeRflags v).idFlag = s.idFlag

/-- `CPUID` with the LOCK prefix always raises `#UD`, in every state. That it changes nothing is the spec's own choice (D4,
log entry 6). -/
def Obligations.LockCpuidRaisesUd : Prop := ∀ s : State, exec .lockCpuid s = .fault (.ud s)

/-- A step that answers a next state moves the pc by 2 exactly, and changes nothing else but RAX to RDX and
IA32_BIOS_SIGN_ID: not the flags, the privilege level, the mode, a control register, another MSR or a byte of memory. -/
def Obligations.StepFrame : Prop :=
  ∀ s t : State, step s = .next t →
    t.pc.toNat = s.pc.toNat + 2 ∧ t.rflags = s.rflags ∧ t.cpl = s.cpl ∧ t.mode64 = s.mode64 ∧ t.cr4Osxsave = s.cr4Osxsave ∧ t.cr4Pke = s.cr4Pke ∧
      t.xcr0 = s.xcr0 ∧ t.xss = s.xss ∧ t.miscEnable = s.miscEnable ∧ t.dcaCap = s.dcaCap ∧
      t.psnEnabled = s.psnEnabled ∧ t.aeskle = s.aeskle ∧ t.cfg = s.cfg ∧ ∀ a, t.readByte a = s.readByte a

/-- All four registers are written by every execution on a processor with the instruction, with the 32-bit leaf values:
zero-extended on an Intel 64 processor, and bits 31:0 on another. -/
def Obligations.FourRegistersWritten : Prop :=
  ∀ s : State, s.cfg.cpuidSupported = true →
    ∃ t, exec .cpuid s = .next t ∧
      (s.cfg.intel64 = true →
        t.reg .rax = (s.cpuidValues s.leafOperand s.subleafOperand).eax.setWidth 64 ∧
        t.reg .rbx = (s.cpuidValues s.leafOperand s.subleafOperand).ebx.setWidth 64 ∧
        t.reg .rcx = (s.cpuidValues s.leafOperand s.subleafOperand).ecx.setWidth 64 ∧
        t.reg .rdx = (s.cpuidValues s.leafOperand s.subleafOperand).edx.setWidth 64) ∧
      (s.cfg.intel64 = false →
        t.reg32 .rax = (s.cpuidValues s.leafOperand s.subleafOperand).eax ∧
        t.reg32 .rbx = (s.cpuidValues s.leafOperand s.subleafOperand).ebx ∧
        t.reg32 .rcx = (s.cpuidValues s.leafOperand s.subleafOperand).ecx ∧
        t.reg32 .rdx = (s.cpuidValues s.leafOperand s.subleafOperand).edx)

/-- No flag changes, and no flag is read: with any other flags the execution returns the same values. -/
def Obligations.FlagsUntouched : Prop :=
  ∀ s : State, s.cfg.cpuidSupported = true →
    ∃ t, exec .cpuid s = .next t ∧ t.rflags = s.rflags ∧ t.idFlag = s.idFlag ∧
      ∀ v q, State.Returns { s with rflags := v } q ↔ s.Returns q

/-- The MSR side effect: bits 63:32 of IA32_BIOS_SIGN_ID become the update signature on every execution, whatever the
leaf; without the facility the MSR is not touched. Nothing is said of bits 31:0, a free value (log entry 10). -/
def Obligations.SignatureLoaded : Prop :=
  ∀ s : State, s.cfg.cpuidSupported = true →
    ∃ t, exec .cpuid s = .next t ∧
      (s.cfg.microcodeFacility = true → (t.biosSignId >>> 32).setWidth 32 = s.cfg.microcodeSignature) ∧
      (s.cfg.microcodeFacility = false → t.biosSignId = s.biosSignId)

/-- Serialisation, in the model's stores and prefetched bytes (log entry 12): after `CPUID` every earlier store is in
memory, nothing is pending or prefetched, and every later fetch gets the byte of program order. -/
def Obligations.CpuidSerializes : Prop :=
  ∀ s : State, s.cfg.cpuidSupported = true →
    ∃ t, exec .cpuid s = .next t ∧ t.storeBuffer = [] ∧ t.prefetched = [] ∧
      ∀ a, t.mem.read a = s.readByte a ∧ t.fetchByte a = s.readByte a

/-- Determinism and noninterference: two states with the same EAX, the same processor and the same run-time inputs of R9,
and the same ECX where the selected leaf uses it, return the same values, whatever RBX, RDX, the upper halves, the pc, the
flags, the privilege level, memory and the MSRs not of R9 hold. -/
def Obligations.OutputDependsOnInputsOnly : Prop :=
  ∀ s s' : State, s.SameInputs s' → s.leafOperand = s'.leafOperand →
    (s.usesSubleaf (s.select s.leafOperand) = true → s.subleafOperand = s'.subleafOperand) →
    ∀ q, s.Returns q ↔ s'.Returns q

/-- Executing `CPUID` again with the same EAX and ECX returns the same four values. -/
def Obligations.RepeatReturnsSame : Prop :=
  ∀ s t : State, exec .cpuid s = .next t →
    ∀ q, s.Returns q ↔
      ((t.writeReg32 .rax s.leafOperand).writeReg32 .rcx s.subleafOperand).Returns q

/-- Two `CPUID` in a row from EAX = 0: the second runs leaf `EffMaxBasic` with sub-leaf 6C65746EH. -/
def Obligations.SecondCpuidUsesOutputs : Prop :=
  ∀ s : State, s.cfg.cpuidSupported = true → s.leafOperand = 0 →
    ∃ t, exec .cpuid s = .next t ∧ t.leafOperand = s.effMaxBasic ∧ t.subleafOperand = 0x6C65746E ∧
      t.Returns (s.leafData s.effMaxBasic (s.subFor s.effMaxBasic 0x6C65746E))

/-! Leaf selection. -/

/-- The partition of all values of EAX: which leaf's data is returned, with ECX honoured, and zeros for an unsupported
leaf, which 08H, 0CH, 0EH and 21H always are. For the leaves that IA32_MISC_ENABLE[22] hides this is the spec's decision
D5 (log entry 14), and zeros for an unsupported extended leaf are R102's own inference. -/
def Obligations.LeafPartition : Prop :=
  ∀ s : State, s.cfg.cpuidSupported = true →
    (s.leafOperand ≤ s.effMaxBasic →
      s.Returns (s.leafData s.leafOperand (s.subFor s.leafOperand s.subleafOperand))) ∧
    (s.effMaxBasic < s.leafOperand → s.leafOperand < 0x80000000#32 →
      s.Returns (s.leafData s.effMaxBasic (s.subFor s.effMaxBasic s.subleafOperand))) ∧
    (0x80000000#32 ≤ s.leafOperand → s.leafOperand ≤ s.cfg.maxExt →
      s.Returns (s.leafData s.leafOperand (s.subFor s.leafOperand s.subleafOperand))) ∧
    (0x80000000#32 ≤ s.leafOperand → s.cfg.maxExt < s.leafOperand →
      s.Returns (s.leafData s.effMaxBasic (s.subFor s.effMaxBasic s.subleafOperand))) ∧
    (∀ leaf n, s.cfg.supports leaf = false → s.leafData leaf n = Quad.zero) ∧
    ∀ leaf : Word32, leaf = 0x08 ∨ leaf = 0x0C ∨ leaf = 0x0E ∨ leaf = 0x21 → s.cfg.supports leaf = false

/-- `Select` is idempotent, and what it selects is a basic or an extended leaf of the processor. -/
def Obligations.SelectIdempotentInRange : Prop :=
  ∀ (s : State) (leaf : Word32),
    s.select (s.select leaf) = s.select leaf ∧ s.cfg.inRange (s.select leaf) = true

/-- Every value in 40000000H to 4FFFFFFFH returns the data of the highest basic leaf, with ECX honoured. That the maximum is
below the range is the spec's inference (log entry 18). -/
def Obligations.InvalidRangeFallsBack : Prop :=
  ∀ s : State, s.cfg.cpuidSupported = true → 0x40000000#32 ≤ s.leafOperand → s.leafOperand ≤ 0x4FFFFFFF#32 →
    s.effMaxBasic < 0x40000000#32 ∧ s.select s.leafOperand = s.effMaxBasic ∧
      s.Returns (s.leafData s.effMaxBasic (s.subFor s.effMaxBasic s.subleafOperand))

/-- An input above the maxima returns exactly what the highest basic leaf returns with the same ECX. -/
def Obligations.OutOfRangeHonorsEcx : Prop :=
  ∀ s : State, s.cfg.cpuidSupported = true → s.select s.leafOperand ≠ s.leafOperand →
    ∃ q, s.Returns q ∧ (s.writeReg32 .rax s.effMaxBasic).Returns q

/-- A leaf in range that the processor does not support returns zeros; 08H, 0CH, 0EH and 21H never are supported, and
leaf 12H is not where the SGX flag is 0. -/
def Obligations.UnsupportedLeafReturnsZero : Prop :=
  (∀ (s : State) (leaf : Word32), s.Selects leaf → s.cfg.supports leaf = false → s.Returns Quad.zero) ∧
    ∀ (s : State) (leaf : Word32), s.Selects leaf →
      leaf = 0x08 ∨ leaf = 0x0C ∨ leaf = 0x0E ∨ leaf = 0x21 ∨ (leaf = 0x12 ∧ s.cfg.sgx = false) → s.Returns Quad.zero

/-- THE MODEL'S READING (log entry 14): with IA32_MISC_ENABLE[22] = 1, where the bit can be set, leaf 00H reports the
smaller of the maximum and 2, every input from 3 to 7FFFFFFFH returns that leaf's data, and an extended leaf returns what
the same state with the bit clear returns. -/
def Obligations.LimitHidesLeaves : Prop :=
  ∀ s : State, s.cfg.cpuidSupported = true → s.cfg.limitRemovable = true → s.miscEnable.getLsbD 22 = true →
    s.effMaxBasic.toNat = min s.cfg.maxBasic.toNat 2 ∧
      (s.leafOperand = 0 → ∃ q, s.Returns q ∧ q.eax = s.effMaxBasic) ∧
      (3#32 ≤ s.leafOperand → s.leafOperand < 0x80000000#32 →
        s.Returns (s.leafData s.effMaxBasic (s.subFor s.effMaxBasic s.subleafOperand))) ∧
      (0x80000000#32 ≤ s.leafOperand → s.leafOperand ≤ s.cfg.maxExt →
        ∃ q, s.Returns q ∧ State.Returns { s with miscEnable := s.miscEnable &&& ~~~(0x400000#64) } q)

/-- Where CPUID.(07H,1):EBX[3] is 1, no write sets IA32_MISC_ENABLE[22], and the maximum is never limited; where it is 0,
a write stores the bit as it is given, at every privilege level by the model's choice (log entry 40). -/
def Obligations.LimitBitHardwired : Prop :=
  ∀ (s : State) (v : Word64),
    (bit (s.cfg.leaf7 1).ebx 3 = true →
      (s.writeMiscEnable v).miscEnable.getLsbD 22 = false ∧ (s.writeMiscEnable v).effMaxBasic = s.cfg.maxBasicWord) ∧
    (bit (s.cfg.leaf7 1).ebx 3 = false → (s.writeMiscEnable v).miscEnable.getLsbD 22 = v.getLsbD 22)

/-! Basic leaves. -/

/-- Leaf 00H: the maximum, and "GenuineIntel" read EBX, EDX, ECX. -/
def Obligations.LeafZeroVendorString : Prop :=
  ∀ s : State, s.Selects 0x00 →
    ∃ q, s.Returns q ∧ q.eax = s.effMaxBasic ∧ (s.miscEnable.getLsbD 22 = false → q.eax = s.cfg.maxBasicWord) ∧
      q.ebx = 0x756E6547 ∧ q.edx = 0x49656E69 ∧ q.ecx = 0x6C65746E ∧
      vendorString q = [0x47, 0x65, 0x6E, 0x75, 0x69, 0x6E, 0x65, 0x49, 0x6E, 0x74, 0x65, 0x6C]

/-- CPUID.01H:ECX[27] is CR4.OSXSAVE: it can only be 1 where ECX[26] is 1, in states whose control bits are legal, and
changing CR4.OSXSAVE changes this bit of leaf 01H and no other. -/
def Obligations.OsxsaveMirrorsCr4 : Prop :=
  ∀ s : State, s.Queries 0x01 →
    ∃ q, s.Returns q ∧ bit q.ecx 27 = s.cr4Osxsave ∧
      (s.controlLegal → bit q.ecx 27 = true → bit q.ecx 26 = true) ∧
      ∀ v, ∃ q', State.Returns { s with cr4Osxsave := v } q' ∧ q'.eax = q.eax ∧ q'.ebx = q.ebx ∧ q'.edx = q.edx ∧
        bit q'.ecx 27 = v ∧ ∀ i, i ≠ 27 → bit q'.ecx i = bit q.ecx i

/-- Leaf 01H: the initial APIC ID of the executing logical processor, PSN only while the feature is supported and enabled
and never on the Pentium 4 processor or later (which processors those are is log entry 39), and ECX[31] = 0. -/
def Obligations.LeafOneIdentity : Prop :=
  ∀ s : State, s.Queries 0x01 →
    ∃ q, s.Returns q ∧ q.ebx.extractLsb' 24 8 = s.cfg.lp.initialApicId ∧
      bit q.edx 18 = (bit (s.cfg.raw 1 0).edx 18 && s.psnEnabled && !s.cfg.pentium4OrLater) ∧ bit q.ecx 31 = false

/-- Leaf 02H of an admissible processor: AL = 01H, and the decoding procedure finds at most 15 descriptors, none null and
each a value of Table 3-21. -/
def Obligations.LeafTwoDescriptors : Prop :=
  ∀ s : State, s.Queries 0x02 → s.cfg.admissible = true →
    ∃ q, s.Returns q ∧ byteOf q.eax 0 = 0x01 ∧ (leaf02Descriptors q).length ≤ 15 ∧
      ∀ d ∈ leaf02Descriptors q, d ≠ 0 ∧ (descriptorOf d).isSome = true

/-- Leaf 04H of an admissible processor with `k` caches: a typed cache of level 1 or above below `k`, with EDX[31:3] = 0
and the core-ID field of sub-leaf 0; type 0 at `k`; zeros above, up to FFFFFFFFH. -/
def Obligations.LeafFourCaches : Prop :=
  ∀ s : State, s.Queries 0x04 → s.cfg.admissible = true →
    ∃ q, s.Returns q ∧
      (s.subleafOperand.toNat < s.cfg.cacheCount → field q.eax 4 0 ≠ 0 ∧ field q.eax 7 5 ≠ 0 ∧
        field q.edx 31 3 = 0 ∧ ∃ q0, (s.withSub 0).Returns q0 ∧ field q.eax 31 26 = field q0.eax 31 26) ∧
      (s.subleafOperand.toNat = s.cfg.cacheCount → field q.eax 4 0 = 0) ∧
      (s.cfg.cacheCount < s.subleafOperand.toNat → q = Quad.zero)

/-- CPUID.(07H,0):ECX[4] is CR4.PKE, and in states whose control bits are legal it is 1 only where ECX[3] is 1; a sub-leaf
above the EAX of sub-leaf 0 returns zeros. -/
def Obligations.LeafSevenOspkeAndSubleaves : Prop :=
  ∀ s : State, s.Queries 0x07 →
    ∃ q0, (s.withSub 0).Returns q0 ∧ bit q0.ecx 4 = s.cr4Pke ∧
      (s.controlLegal → bit q0.ecx 4 = true → bit q0.ecx 3 = true) ∧
      ∀ n, q0.eax < n → (s.withSub n).Returns Quad.zero

/-- Leaf 09H: EAX is bits 31:0 of IA32_PLATFORM_DCA_CAP at the time of execution. That the other registers, which are
Reserved, are constants of the processor is the spec's decision D6 (log entry 13). -/
def Obligations.LeafNineDcaCap : Prop :=
  ∀ s : State, s.Queries 0x09 → ∃ q, s.Returns q ∧ q.eax = s.dcaCap.setWidth 32 ∧
    q.ebx = (s.cfg.raw 9 0).ebx ∧ q.ecx = (s.cfg.raw 9 0).ecx ∧ q.edx = (s.cfg.raw 9 0).edx

/-- Leaf 0BH, every sub-leaf: EDX is the x2APIC ID of the executing logical processor. -/
def Obligations.LeafElevenX2ApicId : Prop :=
  ∀ s : State, s.Queries 0x0B → ∃ q, s.Returns q ∧ q.edx = s.cfg.lp.x2apicId

/-- Leaf 0BH with `T` valid sub-leaves: ECX[7:0] is the low byte of the input ECX in every one, the domain type is 1 and 2
in sub-leaves 0 and 1, and a sub-leaf from `T` on returns 0 in EAX and EBX with domain type 0. On an admissible processor
a valid sub-leaf above 1 has a type above 2, and two valid sub-leaves have different types: each represents a higher-scoped
domain than the one before (that there may be any above Core is log entry 21). -/
def Obligations.LeafElevenSubleaves : Prop :=
  ∀ s : State, s.Queries 0x0B →
    ∃ q, s.Returns q ∧ q.ecx.extractLsb' 0 8 = s.subleafOperand.extractLsb' 0 8 ∧ q.edx = s.cfg.lp.x2apicId ∧
      (s.subleafOperand = 0 → field q.ecx 15 8 = 1) ∧ (s.subleafOperand = 1 → field q.ecx 15 8 = 2) ∧
      (s.cfg.admissible = true → s.subleafOperand.toNat < 2 + s.cfg.extraDomains →
        (2 ≤ s.subleafOperand.toNat → 2 < field q.ecx 15 8) ∧
        ∀ n : Word32, n ≠ s.subleafOperand → n.toNat < 2 + s.cfg.extraDomains →
          ∃ q', (s.withSub n).Returns q' ∧ field q'.ecx 15 8 ≠ field q.ecx 15 8) ∧
      (2 + s.cfg.extraDomains ≤ s.subleafOperand.toNat → q.eax = 0 ∧ q.ebx = 0 ∧ field q.ecx 15 8 = 0)

/-- Leaf 1FH: between 2 and 6 valid sub-leaves, with domain types 1 and 2 first and rising from one valid sub-leaf to the
next up to 6; an invalid one returns 0 in EAX and EBX with type 0; ECX[7:0] and EDX hold in every sub-leaf. -/
def Obligations.LeafV2TopologySubleaves : Prop :=
  ∀ s : State, s.Queries 0x1F →
    ∃ T, 2 ≤ T ∧ T ≤ 6 ∧ ∀ n : Word32, ∃ q, (s.withSub n).Returns q ∧
      q.ecx.extractLsb' 0 8 = n.extractLsb' 0 8 ∧ q.edx = s.cfg.lp.x2apicId ∧
      (n = 0 → field q.ecx 15 8 = 1) ∧ (n = 1 → field q.ecx 15 8 = 2) ∧
      (n.toNat < T → 1 ≤ field q.ecx 15 8 ∧ field q.ecx 15 8 ≤ 6) ∧
      (n.toNat + 1 < T →
        ∃ q', (s.withSub (n + 1)).Returns q' ∧ field q.ecx 15 8 < field q'.ecx 15 8) ∧
      (T ≤ n.toNat → q.eax = 0 ∧ q.ebx = 0 ∧ field q.ecx 15 8 = 0)

/-- Leaf 0DH: a sub-leaf from 2 on is valid exactly if the bit of its number is 1 in EDX:EAX of sub-leaf 0 or in EDX:ECX of
sub-leaf 1; an invalid one returns zeros; in a valid one EAX is the processor's constant (the size of the component),
ECX[0] is the bit of the second vector, and EBX is 0 where that is 1 and the processor's constant (the offset) where it is
0. -/
def Obligations.LeafXsaveSubleaves : Prop :=
  ∀ s : State, s.Queries 0x0D →
    ∃ q0 q1, (s.withSub 0).Returns q0 ∧ (s.withSub 1).Returns q1 ∧
      ∀ n : Word32, 2#32 ≤ n →
        ((joinWords q0.edx q0.eax).getLsbD n.toNat = false → (joinWords q1.edx q1.ecx).getLsbD n.toNat = false →
          (s.withSub n).Returns Quad.zero) ∧
        ((joinWords q0.edx q0.eax).getLsbD n.toNat = true ∨ (joinWords q1.edx q1.ecx).getLsbD n.toNat = true →
          ∃ q, (s.withSub n).Returns q ∧ q.eax = (s.cfg.raw 0xD n).eax ∧
            bit q.ecx 0 = (joinWords q1.edx q1.ecx).getLsbD n.toNat ∧ (bit q.ecx 0 = true → q.ebx = 0) ∧
            (bit q.ecx 0 = false → q.ebx = (s.cfg.raw 0xD n).ebx))

/-- Leaf 0DH sub-leaf 0: the size for the current XCR0 is at most the size for all supported features, and equal to it
when every supported bit of XCR0 is set. -/
def Obligations.XsaveSizeWithinMaximum : Prop :=
  ∀ s : State, s.Queries 0x0D →
    ∃ q, (s.withSub 0).Returns q ∧ q.ebx ≤ q.ecx ∧
      (s.xcr0 &&& joinWords q.edx q.eax = joinWords q.edx q.eax → q.ebx = q.ecx)

/-- Leaf 0DH sub-leaf 1: EBX is the size of the area for XCR0 and IA32_XSS together if EAX[3] is 1, for XCR0 if EAX[1] alone
is, and 0 if neither. -/
def Obligations.XsaveCompactSizeCases : Prop :=
  ∀ s : State, s.Queries 0x0D →
    ∃ q, (s.withSub 1).Returns q ∧
      (bit q.eax 3 = true → q.ebx = s.cfg.compactSize (s.xcr0 ||| s.xss)) ∧
      (bit q.eax 3 = false → bit q.eax 1 = true → q.ebx = s.cfg.compactSize s.xcr0) ∧
      (bit q.eax 3 = false → bit q.eax 1 = false → q.ebx = 0)

/-- Leaf 12H, sub-leaves from 2 on, by the type the sub-leaf returns: type 0 returns zeros, and an EPC section (type 1) has
EAX[11:4] = 0, ECX[11:4] = 0, a base and a size that are multiples of 4096 below 2^52, and EDX:ECX = 0 where its property
encoding is 0. -/
def Obligations.EpcSections : Prop :=
  ∀ s : State, s.Queries 0x12 → 2#32 ≤ s.subleafOperand →
    ∃ q, s.Returns q ∧ (field q.eax 3 0 = 0 → q = Quad.zero) ∧
      (field q.eax 3 0 = 1 → field q.eax 11 4 = 0 ∧ field q.ecx 11 4 = 0 ∧
        epcBase q % 4096 = 0 ∧ epcBase q < 2 ^ 52 ∧ epcSize q % 4096 = 0 ∧ epcSize q < 2 ^ 52 ∧
        (field q.ecx 3 0 = 0 → q.ecx = 0 ∧ q.edx = 0))

/-- Leaf 17H, which is valid where MaxSOCID_Index is at least 3 (R340), returns zeros above MaxSOCID_Index. -/
def Obligations.SocLeafAboveMaximum : Prop :=
  ∀ s : State, s.Queries 0x17 →
    ∃ q0, (s.withSub 0).Returns q0 ∧ (3#32 ≤ q0.eax → ∀ n, q0.eax < n → (s.withSub n).Returns Quad.zero)

/-- Leaf 18H: a sub-leaf above the EAX of sub-leaf 0 returns zeros, and so does every sub-leaf but 0 that returns type 0;
on an admissible processor one that returns another type has level 1 or above. -/
def Obligations.TlbLeafInvalidSubleaves : Prop :=
  ∀ s : State, s.Queries 0x18 →
    ∃ q0, (s.withSub 0).Returns q0 ∧
      ∀ n, (q0.eax < n → (s.withSub n).Returns Quad.zero) ∧
        ∃ q, (s.withSub n).Returns q ∧ (n ≠ 0 → field q.edx 4 0 = 0 → q = Quad.zero) ∧
          (s.cfg.admissible = true → field q.edx 4 0 ≠ 0 → field q.edx 7 5 ≠ 0)

/-- Leaf 19H: EBX[0] is whether AES Key Locker is enabled now, and every other bit is a constant of the processor (for the
Reserved bits and registers the spec's decision D6, log entry 13). -/
def Obligations.KeyLockerEnableBit : Prop :=
  ∀ s : State, s.Queries 0x19 →
    ∃ q, s.Returns q ∧ bit q.ebx 0 = s.aeskle ∧ (∀ i, i ≠ 0 → bit q.ebx i = bit (s.cfg.raw 0x19 0).ebx i) ∧
      q.eax = (s.cfg.raw 0x19 0).eax ∧ q.ecx = (s.cfg.raw 0x19 0).ecx ∧ q.edx = (s.cfg.raw 0x19 0).edx

/-- Leaf 1BH of an admissible processor: a type other than 0 below `P`, zeros from `P` on. -/
def Obligations.PconfigSubleaves : Prop :=
  ∀ s : State, s.Queries 0x1B → s.cfg.admissible = true →
    ∃ q, s.Returns q ∧ (s.subleafOperand.toNat < s.cfg.pconfigCount → q.eax ≠ 0) ∧
      (s.cfg.pconfigCount ≤ s.subleafOperand.toNat → q = Quad.zero)

/-- The fixed values of leaves 1DH and 1EH. -/
def Obligations.TileAndTmulConstants : Prop :=
  (∀ s : State, s.Queries 0x1D →
    (s.subleafOperand = 0 → s.Returns { eax := 1, ebx := 0, ecx := 0, edx := 0 }) ∧
    (s.subleafOperand = 1 →
      ∃ q, s.Returns q ∧ field q.eax 15 0 = 8192 ∧ field q.eax 31 16 = 1024 ∧ field q.ebx 15 0 = 64 ∧
        field q.ebx 31 16 = 8 ∧ field q.ecx 15 0 = 16 ∧ field q.ecx 31 16 = 0 ∧ q.edx = 0)) ∧
  ∀ s : State, s.Queries 0x1E → s.subleafOperand = 0 →
    ∃ q, s.Returns q ∧ q.eax = 0 ∧ field q.ebx 7 0 = 16 ∧ field q.ebx 23 8 = 64 ∧ field q.ebx 31 24 = 0 ∧ q.ecx = 0 ∧
      q.edx = 0

/-- Leaf 23H: a sub-leaf from 1 on whose bit of EAX of sub-leaf 0 is clear, or that has no bit there, returns zeros. -/
def Obligations.PerfmonExtUnsupportedSubleaves : Prop :=
  ∀ s : State, s.Queries 0x23 →
    ∃ q0, (s.withSub 0).Returns q0 ∧
      ∀ n : Word32, n ≠ 0 → bit q0.eax n.toNat = false → (s.withSub n).Returns Quad.zero

/-- The "Reserved = 0" fields of leaves 05H, 06H, 0AH, 15H, 16H, 17H and 20H read 0, and the two hardware feedback bits of
leaf 06H are equal. -/
def Obligations.ReservedZeroFields : Prop :=
  (∀ s : State, s.Queries 0x05 → ∃ q, s.Returns q ∧ field q.eax 31 16 = 0 ∧ field q.ebx 31 16 = 0) ∧
  (∀ s : State, s.Queries 0x06 →
    ∃ q, s.Returns q ∧ field q.ecx 2 1 = 0 ∧ field q.ecx 7 4 = 0 ∧ field q.ecx 31 16 = 0 ∧ bit q.edx 0 = bit q.edx 1) ∧
  (∀ s : State, s.Queries 0x0A →
    ∃ q, s.Returns q ∧ field q.ebx 31 8 = 0 ∧ field q.edx 14 13 = 0 ∧ field q.edx 31 16 = 0) ∧
  (∀ s : State, s.Queries 0x15 → s.subleafOperand = 0 → ∃ q, s.Returns q ∧ q.edx = 0) ∧
  (∀ s : State, s.Queries 0x16 →
    ∃ q, s.Returns q ∧ field q.eax 31 16 = 0 ∧ field q.ebx 31 16 = 0 ∧ field q.ecx 31 16 = 0) ∧
  (∀ s : State, s.Queries 0x17 → s.subleafOperand = 0 → ∃ q, s.Returns q ∧ field q.ebx 31 17 = 0) ∧
  ∀ s : State, s.Queries 0x20 → s.subleafOperand = 0 → ∃ q, s.Returns q ∧ field q.ebx 31 1 = 0

/-! Extended leaves. -/

/-- Leaf 80000000H, where the processor has extended functions: EAX is the maximum extended leaf. -/
def Obligations.MaximumExtendedLeaf : Prop :=
  ∀ s : State, s.cfg.cpuidSupported = true → s.leafOperand = 0x80000000 → 0x80000000#32 ≤ s.cfg.maxExt →
    ∃ q, s.Returns q ∧ q.eax = s.cfg.maxExt

/-- Leaf 80000000H, where the processor has no extended functions: the data of the highest basic leaf is returned, and in a
legal state its EAX is below 80000000H (log entry 42). -/
def Obligations.NoExtendedFunctionsRecognised : Prop :=
  ∀ s : State, s.Legal → s.cfg.cpuidSupported = true → s.leafOperand = 0x80000000 → s.cfg.maxExt < 0x80000000#32 →
    ∃ q, s.Returns q ∧ q = s.leafData s.effMaxBasic (s.subFor s.effMaxBasic s.subleafOperand) ∧ q.eax < 0x80000000#32

/-- CPUID.80000001H:EDX[11] is 0 outside 64-bit mode and the processor's constant in it; no other bit of the leaf depends
on the mode; EDX[29] is 1 exactly on an Intel 64 processor; the "Reserved = 0" fields of EDX read 0. -/
def Obligations.SyscallFlagFollowsMode : Prop :=
  ∀ s : State, s.Queries 0x80000001 →
    ∃ q, s.Returns q ∧ (s.mode64 = false → bit q.edx 11 = false) ∧
      (s.mode64 = true → bit q.edx 11 = bit (s.cfg.raw 0x80000001 0).edx 11) ∧ bit q.edx 29 = s.cfg.intel64 ∧
      field q.edx 19 12 = 0 ∧ field q.edx 25 21 = 0 ∧ bit q.edx 28 = false ∧ field q.edx 31 30 = 0 ∧
      ∀ m, ∃ q', State.Returns { s with mode64 := m } q' ∧ q'.eax = q.eax ∧ q'.ebx = q.ebx ∧ q'.ecx = q.ecx ∧
        ∀ i, i ≠ 11 → bit q'.edx i = bit q.edx i

/-- Leaf 80000005H in range returns zeros, supported or not. -/
def Obligations.LeafExtFiveZero : Prop := ∀ s : State, s.Selects 0x80000005 → s.Returns Quad.zero

/-- Leaf 80000006H: only ECX is not "Reserved = 0". Leaf 80000007H: only EDX[8] is not. -/
def Obligations.LeafExtSixSevenReserved : Prop :=
  (∀ s : State, s.Queries 0x80000006 → ∃ q, s.Returns q ∧ q.eax = 0 ∧ q.ebx = 0 ∧ q.edx = 0) ∧
  ∀ s : State, s.Queries 0x80000007 →
    ∃ q, s.Returns q ∧ q.eax = 0 ∧ q.ebx = 0 ∧ q.ecx = 0 ∧ (q.edx = 0 ∨ q.edx = 0x100)

/-- Leaf 80000008H: EAX[31:16], EBX but for bit 9, ECX and EDX are 0, and the rest are constants of the processor. -/
def Obligations.LeafExtEightReserved : Prop :=
  ∀ s : State, s.Queries 0x80000008 →
    ∃ q, s.Returns q ∧ field q.eax 23 16 = 0 ∧ field q.eax 31 24 = 0 ∧ field q.ebx 8 0 = 0 ∧ field q.ebx 31 10 = 0 ∧
      q.ecx = 0 ∧ q.edx = 0 ∧ field q.eax 7 0 = field (s.cfg.raw 0x80000008 0).eax 7 0 ∧
      field q.eax 15 8 = field (s.cfg.raw 0x80000008 0).eax 15 8 ∧ bit q.ebx 9 = bit (s.cfg.raw 0x80000008 0).ebx 9

/-! Invariants. -/

/-- Every step keeps a legal state legal: canonical memory, an admissible processor, XCR0, IA32_XSS and the control bits
within what the processor reports, 32-bit registers and no 64-bit mode on a processor that is not Intel 64, the limit bit
0 where it cannot be set, the pc within its width, and bit 31 of IA32_PLATFORM_DCA_CAP 0 where leaf 09H answers for
80000000H. -/
def Obligations.StepKeepsLegal : Prop := ∀ s t : State, s.Legal → step s = .next t → t.Legal

/-- THE MODEL'S CHOICE of reset values (log entries 2, 3, 4, 35, 37): the state after reset is legal. -/
def Obligations.ResetIsLegal : Prop := State.reset.Legal

/-- After reset IA32_MISC_ENABLE[22] is 0, so that no basic leaf is hidden. -/
def Obligations.ResetLimitIsOff : Prop :=
  State.reset.miscEnable.getLsbD 22 = false ∧ State.reset.effMaxBasic = State.reset.cfg.maxBasicWord

/-- Software can set and clear the ID flag, EFLAGS[21], if and only if the processor has `CPUID` (the "only if" is the
spec's own reading, log entry 28). -/
def Obligations.IdFlagTogglesIffSupported : Prop :=
  ∀ s : State, s.cfg.cpuidSupported = true ↔
    (∃ v, (s.writeRflags v).idFlag = true) ∧ ∃ v, (s.writeRflags v).idFlag = false

/-! Software procedures. -/

/-- DisplayModel is the 8-bit value Extended_Model_ID :: Model_ID for family 06H and 0FH, else Model_ID. -/
def Obligations.DisplayModelConcatenates : Prop :=
  ∀ v : Word32,
    (v.extractLsb' 8 4 = 0x6#4 ∨ v.extractLsb' 8 4 = 0xF#4 →
      displayModel v = (v.extractLsb' 16 4 ++ v.extractLsb' 4 4 : BitVec 8).toNat) ∧
    (v.extractLsb' 8 4 ≠ 0x6#4 → v.extractLsb' 8 4 ≠ 0xF#4 → displayModel v = (v.extractLsb' 4 4).toNat)

/-- DisplayFamily is Family_ID below 0FH, and from 0FH to 10EH otherwise, with no wrap. -/
def Obligations.DisplayFamilyRange : Prop :=
  ∀ v : Word32,
    (v.extractLsb' 8 4 ≠ 0xF#4 → displayFamily v = (v.extractLsb' 8 4).toNat ∧ displayFamily v ≤ 0xE) ∧
    (v.extractLsb' 8 4 = 0xF#4 →
      displayFamily v = (v.extractLsb' 20 8).toNat + 0xF ∧ 0xF ≤ displayFamily v ∧ displayFamily v ≤ 0x10E)

/-- The cache size is at most 2^64, and reaches it exactly when every field is all ones. -/
def Obligations.CacheSizeBound : Prop :=
  ∀ ebx ecx : Word32, cacheSizeBytes ebx ecx ≤ 2 ^ 64 ∧
    (cacheSizeBytes ebx ecx = 2 ^ 64 ↔ ebx = 0xFFFFFFFF#32 ∧ ecx = 0xFFFFFFFF#32)

/-- `nearestPow2 n` is the least power of 2 that is not smaller than `n` (for n = 0 the spec chooses 1, log entry 29). -/
def Obligations.NearestPowerOfTwo : Prop :=
  ∀ n : Nat, (∃ k, nearestPow2 n = 2 ^ k) ∧ n ≤ nearestPow2 n ∧ ∀ k, n ≤ 2 ^ k → nearestPow2 n ≤ 2 ^ k
end

