-- ==== Sys2Proof/Laws/Render.lean ====
section
/-! SUPPORT. What a rendered register is, bit by bit and for the field tables of one whole register. -/

namespace Sys2Proof.Laws

open Sys2Proof.Machine

/-- Each bit of a rendered register is the bit of the field that covers it. -/
theorem renderReg_getLsbD (fs : List Field) (raw : Word32) (env : DynField → Word32) (i : Nat) (h : i < 32) :
    (renderReg fs raw env).getLsbD i = regBit fs raw env i := by
  simp [renderReg, h]

theorem renderReg_getElem (fs : List Field) (raw : Word32) (env : DynField → Word32) (i : Nat) (h : i < 32) :
    (renderReg fs raw env)[i] = regBit fs raw env i := by
  rw [← renderReg_getLsbD fs raw env i h, BitVec.getLsbD_eq_getElem h]

/-- A register is what its field table says of each bit. -/
theorem renderReg_eq (fs : List Field) (raw : Word32) (env : DynField → Word32) (v : Word32)
    (h : ∀ i, i < 32 → regBit fs raw env i = v.getLsbD i) : renderReg fs raw env = v := by
  apply BitVec.eq_of_getLsbD_eq
  intro i hi
  rw [renderReg_getLsbD _ _ _ _ hi, h i hi]

/-- Two registers with one field table agree if their fields agree on every bit. -/
theorem renderReg_congr (fs : List Field) (raw raw' : Word32) (env env' : DynField → Word32)
    (h : ∀ i, i < 32 → regBit fs raw env i = regBit fs raw' env' i) : renderReg fs raw env = renderReg fs raw' env' := by
  apply renderReg_eq
  intro i hi
  rw [h i hi, renderReg_getLsbD _ _ _ _ hi]

theorem covers_iff (f : Field) (i : Nat) : f.covers i = true ↔ f.lo ≤ i ∧ i ≤ f.hi := by
  simp [Field.covers]

/-- One field over the whole register. -/
theorem regBit_whole (f : Field) (raw : Word32) (env : DynField → Word32) (i : Nat) (hlo : f.lo = 0) (hhi : f.hi = 31)
    (h : i < 32) : regBit [f] raw env i = f.bitValue raw env i := by
  have : f.covers i = true := (covers_iff f i).2 ⟨by omega, by omega⟩
  simp [regBit, this]

@[simp] theorem render_wholeConst (name : String) (raw : Word32) (env : DynField → Word32) :
    renderReg (wholeConst name) raw env = raw :=
  renderReg_eq _ _ _ _ fun i h => regBit_whole _ raw env i rfl rfl h

@[simp] theorem render_fld_whole (name : String) (raw : Word32) (env : DynField → Word32) :
    renderReg [fld 31 0 name] raw env = raw :=
  renderReg_eq _ _ _ _ fun i h => regBit_whole _ raw env i rfl rfl h

@[simp] theorem render_wholeReserved (raw : Word32) (env : DynField → Word32) : renderReg wholeReserved raw env = raw :=
  renderReg_eq _ _ _ _ fun i h => regBit_whole _ raw env i rfl rfl h

@[simp] theorem render_wholeZero (raw : Word32) (env : DynField → Word32) : renderReg wholeZero raw env = 0 :=
  renderReg_eq _ _ _ _ fun i h => by
    rw [wholeZero, regBit_whole _ raw env i rfl rfl h]; simp [zeros, Field.bitValue]

/-- A whole register that the source fixes. -/
@[simp] theorem render_fixd (name : String) (v : Nat) (raw : Word32) (env : DynField → Word32) :
    renderReg [fixd 31 0 name v] raw env = BitVec.ofNat 32 v :=
  renderReg_eq _ _ _ _ fun i h => by
    rw [regBit_whole _ raw env i rfl rfl h]; simp [fixd, Field.bitValue, BitVec.getLsbD_ofNat, h, -BitVec.getLsbD_eq_getElem]

/-- A whole register that is read at execution. -/
@[simp] theorem render_live (name : String) (d : DynField) (raw : Word32) (env : DynField → Word32) :
    renderReg [live 31 0 name d] raw env = env d :=
  renderReg_eq _ _ _ _ fun i h => by
    rw [regBit_whole _ raw env i rfl rfl h]; simp [live, Field.bitValue]

/-- A table without a field read at execution does not depend on the state. -/
theorem renderReg_static (fs : List Field) (raw : Word32) (env env' : DynField → Word32)
    (h : ∀ f ∈ fs, ∀ d, f.source ≠ .live d) : renderReg fs raw env = renderReg fs raw env' := by
  apply renderReg_congr
  intro i _
  unfold regBit
  cases hf : fs.find? (fun f => f.covers i) with
  | none => rfl
  | some f =>
    have hm := List.mem_of_find?_eq_some hf
    unfold Field.bitValue
    obtain ⟨hi, lo, name, source⟩ := f
    cases source with
    | live d => exact absurd rfl (h _ hm d)
    | const => rfl
    | reserved => rfl
    | fixed v => rfl

/-- The bit of a one-bit word. -/
@[simp] theorem wordOfBool_getLsbD (b : Bool) (i : Nat) : (wordOfBool b).getLsbD i = (b && decide (i = 0)) := by
  cases b
  · simp [wordOfBool]
  · simp only [wordOfBool, if_true, Bool.true_and]
    rw [show (1 : Word32) = 1#32 from rfl, BitVec.getLsbD_one]
    simp

theorem wordOfBool_bit (b : Bool) : (wordOfBool b).getLsbD 0 = b := by cases b <;> rfl

/-- Bits from 32 on are 0. -/
theorem bit_ge (v : Word32) (i : Nat) (h : 32 ≤ i) : bit v i = false := BitVec.getLsbD_of_ge v i h

/-- A bit of a field, read as a number. -/
theorem field_testBit (v : Word32) (hi lo i : Nat) :
    (field v hi lo).testBit i = (decide (i < hi - lo + 1) && v.getLsbD (lo + i)) := by
  simp only [field, Nat.testBit_mod_two_pow, Nat.testBit_shiftRight, BitVec.testBit_toNat]

/-- The value of a field: of the processor's constant, as fixed, or as read at execution. -/
def fieldValue (f : Field) (raw : Word32) (env : DynField → Word32) : Nat :=
  match f.source with
  | .const    => field raw f.hi f.lo
  | .reserved => field raw f.hi f.lo
  | .fixed v  => v % 2 ^ (f.hi - f.lo + 1)
  | .live d   => (env d).toNat % 2 ^ (f.hi - f.lo + 1)

/-- The table gives every bit of the field `f` to `f`. -/
def owns (fs : List Field) (f : Field) : Bool :=
  Nat.ble f.lo f.hi && Nat.ble f.hi 31 &&
    (List.range 32).all fun i => !(f.covers i) || decide (fs.find? (fun g => g.covers i) = some f)

/-- A field of a rendered register has the value its table says. -/
theorem field_render (fs : List Field) (f : Field) (raw : Word32) (env : DynField → Word32) (h : owns fs f = true) :
    field (renderReg fs raw env) f.hi f.lo = fieldValue f raw env := by
  simp only [owns, Bool.and_eq_true, Nat.ble_eq, List.all_eq_true, List.mem_range, Bool.or_eq_true, Bool.not_eq_true',
    decide_eq_true_eq] at h
  obtain ⟨⟨hle, h31⟩, hall⟩ := h
  have hbit : ∀ j, j < f.hi - f.lo + 1 →
      (renderReg fs raw env).getLsbD (f.lo + j) = f.bitValue raw env (f.lo + j) := by
    intro j hj
    rw [renderReg_getLsbD _ _ _ _ (by omega)]
    have hc : f.covers (f.lo + j) = true := (covers_iff f _).2 ⟨by omega, by omega⟩
    rcases hall (f.lo + j) (by omega) with hn | hs
    · rw [hc] at hn; cases hn
    · simp [regBit, hs]
  apply Nat.eq_of_testBit_eq
  intro j
  rw [field_testBit]
  by_cases hj : j < f.hi - f.lo + 1
  · rw [hbit j hj]
    unfold fieldValue Field.bitValue
    cases f.source <;> simp [hj, field_testBit, Nat.testBit_mod_two_pow, BitVec.testBit_toNat]
  · have hlt : fieldValue f raw env < 2 ^ (f.hi - f.lo + 1) := by
      unfold fieldValue
      cases f.source
      · exact Nat.mod_lt _ (Nat.two_pow_pos _)
      · exact Nat.mod_lt _ (Nat.two_pow_pos _)
      · exact Nat.mod_lt _ (Nat.two_pow_pos _)
      · exact Nat.mod_lt _ (Nat.two_pow_pos _)
    have : (fieldValue f raw env).testBit j = false :=
      Nat.testBit_lt_two_pow (lt_of_lt_of_le hlt (Nat.pow_le_pow_right (by omega) (by omega)))
    simp [hj, this]

/-- A bit of a rendered register. -/
theorem bit_render (fs : List Field) (raw : Word32) (env : DynField → Word32) (n : Nat) (h : n < 32) :
    bit (renderReg fs raw env) n = regBit fs raw env n := renderReg_getLsbD fs raw env n h

end Sys2Proof.Laws
end

