-- ==== Sys2Proof/Laws/State.lean ====
section
/-! SUPPORT. One lemma per field per update of `State`, so that no proof unfolds a record update. -/

namespace Sys2Proof.Laws

open Sys2Proof.Machine

/-! `State.setReg`. -/

@[simp] theorem setReg_pc (s : State) (r : Reg) (v : Word64) : (s.setReg r v).pc = s.pc := by cases r <;> rfl
@[simp] theorem setReg_rflags (s : State) (r : Reg) (v : Word64) : (s.setReg r v).rflags = s.rflags := by cases r <;> rfl
@[simp] theorem setReg_cpl (s : State) (r : Reg) (v : Word64) : (s.setReg r v).cpl = s.cpl := by cases r <;> rfl
@[simp] theorem setReg_mode64 (s : State) (r : Reg) (v : Word64) : (s.setReg r v).mode64 = s.mode64 := by cases r <;> rfl
@[simp] theorem setReg_cr4Osxsave (s : State) (r : Reg) (v : Word64) : (s.setReg r v).cr4Osxsave = s.cr4Osxsave := by cases r <;> rfl
@[simp] theorem setReg_cr4Pke (s : State) (r : Reg) (v : Word64) : (s.setReg r v).cr4Pke = s.cr4Pke := by cases r <;> rfl
@[simp] theorem setReg_xcr0 (s : State) (r : Reg) (v : Word64) : (s.setReg r v).xcr0 = s.xcr0 := by cases r <;> rfl
@[simp] theorem setReg_xss (s : State) (r : Reg) (v : Word64) : (s.setReg r v).xss = s.xss := by cases r <;> rfl
@[simp] theorem setReg_miscEnable (s : State) (r : Reg) (v : Word64) : (s.setReg r v).miscEnable = s.miscEnable := by cases r <;> rfl
@[simp] theorem setReg_biosSignId (s : State) (r : Reg) (v : Word64) : (s.setReg r v).biosSignId = s.biosSignId := by cases r <;> rfl
@[simp] theorem setReg_dcaCap (s : State) (r : Reg) (v : Word64) : (s.setReg r v).dcaCap = s.dcaCap := by cases r <;> rfl
@[simp] theorem setReg_psnEnabled (s : State) (r : Reg) (v : Word64) : (s.setReg r v).psnEnabled = s.psnEnabled := by cases r <;> rfl
@[simp] theorem setReg_aeskle (s : State) (r : Reg) (v : Word64) : (s.setReg r v).aeskle = s.aeskle := by cases r <;> rfl
@[simp] theorem setReg_mem (s : State) (r : Reg) (v : Word64) : (s.setReg r v).mem = s.mem := by cases r <;> rfl
@[simp] theorem setReg_storeBuffer (s : State) (r : Reg) (v : Word64) : (s.setReg r v).storeBuffer = s.storeBuffer := by cases r <;> rfl
@[simp] theorem setReg_prefetched (s : State) (r : Reg) (v : Word64) : (s.setReg r v).prefetched = s.prefetched := by cases r <;> rfl
@[simp] theorem setReg_freeIndex (s : State) (r : Reg) (v : Word64) : (s.setReg r v).freeIndex = s.freeIndex := by cases r <;> rfl
@[simp] theorem setReg_cfg (s : State) (r : Reg) (v : Word64) : (s.setReg r v).cfg = s.cfg := by cases r <;> rfl

/-! `State.writeReg32`. -/

@[simp] theorem writeReg32_pc (s : State) (r : Reg) (v : Word32) : (s.writeReg32 r v).pc = s.pc := by cases r <;> rfl
@[simp] theorem writeReg32_rflags (s : State) (r : Reg) (v : Word32) : (s.writeReg32 r v).rflags = s.rflags := by cases r <;> rfl
@[simp] theorem writeReg32_cpl (s : State) (r : Reg) (v : Word32) : (s.writeReg32 r v).cpl = s.cpl := by cases r <;> rfl
@[simp] theorem writeReg32_mode64 (s : State) (r : Reg) (v : Word32) : (s.writeReg32 r v).mode64 = s.mode64 := by cases r <;> rfl
@[simp] theorem writeReg32_cr4Osxsave (s : State) (r : Reg) (v : Word32) : (s.writeReg32 r v).cr4Osxsave = s.cr4Osxsave := by cases r <;> rfl
@[simp] theorem writeReg32_cr4Pke (s : State) (r : Reg) (v : Word32) : (s.writeReg32 r v).cr4Pke = s.cr4Pke := by cases r <;> rfl
@[simp] theorem writeReg32_xcr0 (s : State) (r : Reg) (v : Word32) : (s.writeReg32 r v).xcr0 = s.xcr0 := by cases r <;> rfl
@[simp] theorem writeReg32_xss (s : State) (r : Reg) (v : Word32) : (s.writeReg32 r v).xss = s.xss := by cases r <;> rfl
@[simp] theorem writeReg32_miscEnable (s : State) (r : Reg) (v : Word32) : (s.writeReg32 r v).miscEnable = s.miscEnable := by cases r <;> rfl
@[simp] theorem writeReg32_biosSignId (s : State) (r : Reg) (v : Word32) : (s.writeReg32 r v).biosSignId = s.biosSignId := by cases r <;> rfl
@[simp] theorem writeReg32_dcaCap (s : State) (r : Reg) (v : Word32) : (s.writeReg32 r v).dcaCap = s.dcaCap := by cases r <;> rfl
@[simp] theorem writeReg32_psnEnabled (s : State) (r : Reg) (v : Word32) : (s.writeReg32 r v).psnEnabled = s.psnEnabled := by cases r <;> rfl
@[simp] theorem writeReg32_aeskle (s : State) (r : Reg) (v : Word32) : (s.writeReg32 r v).aeskle = s.aeskle := by cases r <;> rfl
@[simp] theorem writeReg32_mem (s : State) (r : Reg) (v : Word32) : (s.writeReg32 r v).mem = s.mem := by cases r <;> rfl
@[simp] theorem writeReg32_storeBuffer (s : State) (r : Reg) (v : Word32) : (s.writeReg32 r v).storeBuffer = s.storeBuffer := by cases r <;> rfl
@[simp] theorem writeReg32_prefetched (s : State) (r : Reg) (v : Word32) : (s.writeReg32 r v).prefetched = s.prefetched := by cases r <;> rfl
@[simp] theorem writeReg32_freeIndex (s : State) (r : Reg) (v : Word32) : (s.writeReg32 r v).freeIndex = s.freeIndex := by cases r <;> rfl
@[simp] theorem writeReg32_cfg (s : State) (r : Reg) (v : Word32) : (s.writeReg32 r v).cfg = s.cfg := by cases r <;> rfl

/-! `State.writeQuad`. -/

@[simp] theorem writeQuad_pc (s : State) (q : Quad) : (s.writeQuad q).pc = s.pc := rfl
@[simp] theorem writeQuad_rflags (s : State) (q : Quad) : (s.writeQuad q).rflags = s.rflags := rfl
@[simp] theorem writeQuad_cpl (s : State) (q : Quad) : (s.writeQuad q).cpl = s.cpl := rfl
@[simp] theorem writeQuad_mode64 (s : State) (q : Quad) : (s.writeQuad q).mode64 = s.mode64 := rfl
@[simp] theorem writeQuad_cr4Osxsave (s : State) (q : Quad) : (s.writeQuad q).cr4Osxsave = s.cr4Osxsave := rfl
@[simp] theorem writeQuad_cr4Pke (s : State) (q : Quad) : (s.writeQuad q).cr4Pke = s.cr4Pke := rfl
@[simp] theorem writeQuad_xcr0 (s : State) (q : Quad) : (s.writeQuad q).xcr0 = s.xcr0 := rfl
@[simp] theorem writeQuad_xss (s : State) (q : Quad) : (s.writeQuad q).xss = s.xss := rfl
@[simp] theorem writeQuad_miscEnable (s : State) (q : Quad) : (s.writeQuad q).miscEnable = s.miscEnable := rfl
@[simp] theorem writeQuad_biosSignId (s : State) (q : Quad) : (s.writeQuad q).biosSignId = s.biosSignId := rfl
@[simp] theorem writeQuad_dcaCap (s : State) (q : Quad) : (s.writeQuad q).dcaCap = s.dcaCap := rfl
@[simp] theorem writeQuad_psnEnabled (s : State) (q : Quad) : (s.writeQuad q).psnEnabled = s.psnEnabled := rfl
@[simp] theorem writeQuad_aeskle (s : State) (q : Quad) : (s.writeQuad q).aeskle = s.aeskle := rfl
@[simp] theorem writeQuad_mem (s : State) (q : Quad) : (s.writeQuad q).mem = s.mem := rfl
@[simp] theorem writeQuad_storeBuffer (s : State) (q : Quad) : (s.writeQuad q).storeBuffer = s.storeBuffer := rfl
@[simp] theorem writeQuad_prefetched (s : State) (q : Quad) : (s.writeQuad q).prefetched = s.prefetched := rfl
@[simp] theorem writeQuad_freeIndex (s : State) (q : Quad) : (s.writeQuad q).freeIndex = s.freeIndex := rfl
@[simp] theorem writeQuad_cfg (s : State) (q : Quad) : (s.writeQuad q).cfg = s.cfg := rfl

@[simp] theorem writeQuad_rax (s : State) (q : Quad) : (s.writeQuad q).rax = q.eax.setWidth 64 := rfl
@[simp] theorem writeQuad_rbx (s : State) (q : Quad) : (s.writeQuad q).rbx = q.ebx.setWidth 64 := rfl
@[simp] theorem writeQuad_rcx (s : State) (q : Quad) : (s.writeQuad q).rcx = q.ecx.setWidth 64 := rfl
@[simp] theorem writeQuad_rdx (s : State) (q : Quad) : (s.writeQuad q).rdx = q.edx.setWidth 64 := rfl

/-! `State.advance`. -/

@[simp] theorem advance_rax (s : State) (n : Nat) : (s.advance n).rax = s.rax := rfl
@[simp] theorem advance_rbx (s : State) (n : Nat) : (s.advance n).rbx = s.rbx := rfl
@[simp] theorem advance_rcx (s : State) (n : Nat) : (s.advance n).rcx = s.rcx := rfl
@[simp] theorem advance_rdx (s : State) (n : Nat) : (s.advance n).rdx = s.rdx := rfl
@[simp] theorem advance_rflags (s : State) (n : Nat) : (s.advance n).rflags = s.rflags := rfl
@[simp] theorem advance_cpl (s : State) (n : Nat) : (s.advance n).cpl = s.cpl := rfl
@[simp] theorem advance_mode64 (s : State) (n : Nat) : (s.advance n).mode64 = s.mode64 := rfl
@[simp] theorem advance_cr4Osxsave (s : State) (n : Nat) : (s.advance n).cr4Osxsave = s.cr4Osxsave := rfl
@[simp] theorem advance_cr4Pke (s : State) (n : Nat) : (s.advance n).cr4Pke = s.cr4Pke := rfl
@[simp] theorem advance_xcr0 (s : State) (n : Nat) : (s.advance n).xcr0 = s.xcr0 := rfl
@[simp] theorem advance_xss (s : State) (n : Nat) : (s.advance n).xss = s.xss := rfl
@[simp] theorem advance_miscEnable (s : State) (n : Nat) : (s.advance n).miscEnable = s.miscEnable := rfl
@[simp] theorem advance_biosSignId (s : State) (n : Nat) : (s.advance n).biosSignId = s.biosSignId := rfl
@[simp] theorem advance_dcaCap (s : State) (n : Nat) : (s.advance n).dcaCap = s.dcaCap := rfl
@[simp] theorem advance_psnEnabled (s : State) (n : Nat) : (s.advance n).psnEnabled = s.psnEnabled := rfl
@[simp] theorem advance_aeskle (s : State) (n : Nat) : (s.advance n).aeskle = s.aeskle := rfl
@[simp] theorem advance_mem (s : State) (n : Nat) : (s.advance n).mem = s.mem := rfl
@[simp] theorem advance_storeBuffer (s : State) (n : Nat) : (s.advance n).storeBuffer = s.storeBuffer := rfl
@[simp] theorem advance_prefetched (s : State) (n : Nat) : (s.advance n).prefetched = s.prefetched := rfl
@[simp] theorem advance_freeIndex (s : State) (n : Nat) : (s.advance n).freeIndex = s.freeIndex := rfl
@[simp] theorem advance_cfg (s : State) (n : Nat) : (s.advance n).cfg = s.cfg := rfl

@[simp] theorem advance_pc (s : State) (n : Nat) :
    (s.advance n).pc = s.pcAfter n := rfl

/-! `State.serialize`. -/

@[simp] theorem serialize_rax (s : State) : (s.serialize).rax = s.rax := rfl
@[simp] theorem serialize_rbx (s : State) : (s.serialize).rbx = s.rbx := rfl
@[simp] theorem serialize_rcx (s : State) : (s.serialize).rcx = s.rcx := rfl
@[simp] theorem serialize_rdx (s : State) : (s.serialize).rdx = s.rdx := rfl
@[simp] theorem serialize_pc (s : State) : (s.serialize).pc = s.pc := rfl
@[simp] theorem serialize_rflags (s : State) : (s.serialize).rflags = s.rflags := rfl
@[simp] theorem serialize_cpl (s : State) : (s.serialize).cpl = s.cpl := rfl
@[simp] theorem serialize_mode64 (s : State) : (s.serialize).mode64 = s.mode64 := rfl
@[simp] theorem serialize_cr4Osxsave (s : State) : (s.serialize).cr4Osxsave = s.cr4Osxsave := rfl
@[simp] theorem serialize_cr4Pke (s : State) : (s.serialize).cr4Pke = s.cr4Pke := rfl
@[simp] theorem serialize_xcr0 (s : State) : (s.serialize).xcr0 = s.xcr0 := rfl
@[simp] theorem serialize_xss (s : State) : (s.serialize).xss = s.xss := rfl
@[simp] theorem serialize_miscEnable (s : State) : (s.serialize).miscEnable = s.miscEnable := rfl
@[simp] theorem serialize_biosSignId (s : State) : (s.serialize).biosSignId = s.biosSignId := rfl
@[simp] theorem serialize_dcaCap (s : State) : (s.serialize).dcaCap = s.dcaCap := rfl
@[simp] theorem serialize_psnEnabled (s : State) : (s.serialize).psnEnabled = s.psnEnabled := rfl
@[simp] theorem serialize_aeskle (s : State) : (s.serialize).aeskle = s.aeskle := rfl
@[simp] theorem serialize_freeIndex (s : State) : (s.serialize).freeIndex = s.freeIndex := rfl
@[simp] theorem serialize_cfg (s : State) : (s.serialize).cfg = s.cfg := rfl

@[simp] theorem serialize_mem (s : State) : s.serialize.mem = s.mem.drain s.storeBuffer := rfl
@[simp] theorem serialize_storeBuffer (s : State) : s.serialize.storeBuffer = [] := rfl
@[simp] theorem serialize_prefetched (s : State) : s.serialize.prefetched = [] := rfl

/-! `State.loadSignature`. -/

@[simp] theorem loadSignature_rax (s : State) : (s.loadSignature).rax = s.rax := by unfold State.loadSignature; split <;> rfl
@[simp] theorem loadSignature_rbx (s : State) : (s.loadSignature).rbx = s.rbx := by unfold State.loadSignature; split <;> rfl
@[simp] theorem loadSignature_rcx (s : State) : (s.loadSignature).rcx = s.rcx := by unfold State.loadSignature; split <;> rfl
@[simp] theorem loadSignature_rdx (s : State) : (s.loadSignature).rdx = s.rdx := by unfold State.loadSignature; split <;> rfl
@[simp] theorem loadSignature_pc (s : State) : (s.loadSignature).pc = s.pc := by unfold State.loadSignature; split <;> rfl
@[simp] theorem loadSignature_rflags (s : State) : (s.loadSignature).rflags = s.rflags := by unfold State.loadSignature; split <;> rfl
@[simp] theorem loadSignature_cpl (s : State) : (s.loadSignature).cpl = s.cpl := by unfold State.loadSignature; split <;> rfl
@[simp] theorem loadSignature_mode64 (s : State) : (s.loadSignature).mode64 = s.mode64 := by unfold State.loadSignature; split <;> rfl
@[simp] theorem loadSignature_cr4Osxsave (s : State) : (s.loadSignature).cr4Osxsave = s.cr4Osxsave := by unfold State.loadSignature; split <;> rfl
@[simp] theorem loadSignature_cr4Pke (s : State) : (s.loadSignature).cr4Pke = s.cr4Pke := by unfold State.loadSignature; split <;> rfl
@[simp] theorem loadSignature_xcr0 (s : State) : (s.loadSignature).xcr0 = s.xcr0 := by unfold State.loadSignature; split <;> rfl
@[simp] theorem loadSignature_xss (s : State) : (s.loadSignature).xss = s.xss := by unfold State.loadSignature; split <;> rfl
@[simp] theorem loadSignature_miscEnable (s : State) : (s.loadSignature).miscEnable = s.miscEnable := by unfold State.loadSignature; split <;> rfl
@[simp] theorem loadSignature_dcaCap (s : State) : (s.loadSignature).dcaCap = s.dcaCap := by unfold State.loadSignature; split <;> rfl
@[simp] theorem loadSignature_psnEnabled (s : State) : (s.loadSignature).psnEnabled = s.psnEnabled := by unfold State.loadSignature; split <;> rfl
@[simp] theorem loadSignature_aeskle (s : State) : (s.loadSignature).aeskle = s.aeskle := by unfold State.loadSignature; split <;> rfl
@[simp] theorem loadSignature_mem (s : State) : (s.loadSignature).mem = s.mem := by unfold State.loadSignature; split <;> rfl
@[simp] theorem loadSignature_storeBuffer (s : State) : (s.loadSignature).storeBuffer = s.storeBuffer := by unfold State.loadSignature; split <;> rfl
@[simp] theorem loadSignature_prefetched (s : State) : (s.loadSignature).prefetched = s.prefetched := by unfold State.loadSignature; split <;> rfl
@[simp] theorem loadSignature_cfg (s : State) : (s.loadSignature).cfg = s.cfg := by unfold State.loadSignature; split <;> rfl

@[simp] theorem loadSignature_biosSignId (s : State) :
    s.loadSignature.biosSignId = if s.cfg.microcodeFacility then
      joinWords s.cfg.microcodeSignature (Config.freeSignatureLow s.cfg.lp.x2apicId s.freeIndex) else s.biosSignId := by
  unfold State.loadSignature; split <;> rfl
@[simp] theorem loadSignature_freeIndex (s : State) :
    s.loadSignature.freeIndex = if s.cfg.microcodeFacility then s.freeIndex + 1 else s.freeIndex := by
  unfold State.loadSignature; split <;> rfl

/-! `State.writeRflags`. -/

@[simp] theorem writeRflags_rax (s : State) (v : Word64) : (s.writeRflags v).rax = s.rax := by unfold State.writeRflags; split <;> rfl
@[simp] theorem writeRflags_rbx (s : State) (v : Word64) : (s.writeRflags v).rbx = s.rbx := by unfold State.writeRflags; split <;> rfl
@[simp] theorem writeRflags_rcx (s : State) (v : Word64) : (s.writeRflags v).rcx = s.rcx := by unfold State.writeRflags; split <;> rfl
@[simp] theorem writeRflags_rdx (s : State) (v : Word64) : (s.writeRflags v).rdx = s.rdx := by unfold State.writeRflags; split <;> rfl
@[simp] theorem writeRflags_pc (s : State) (v : Word64) : (s.writeRflags v).pc = s.pc := by unfold State.writeRflags; split <;> rfl
@[simp] theorem writeRflags_cpl (s : State) (v : Word64) : (s.writeRflags v).cpl = s.cpl := by unfold State.writeRflags; split <;> rfl
@[simp] theorem writeRflags_mode64 (s : State) (v : Word64) : (s.writeRflags v).mode64 = s.mode64 := by unfold State.writeRflags; split <;> rfl
@[simp] theorem writeRflags_cr4Osxsave (s : State) (v : Word64) : (s.writeRflags v).cr4Osxsave = s.cr4Osxsave := by unfold State.writeRflags; split <;> rfl
@[simp] theorem writeRflags_cr4Pke (s : State) (v : Word64) : (s.writeRflags v).cr4Pke = s.cr4Pke := by unfold State.writeRflags; split <;> rfl
@[simp] theorem writeRflags_xcr0 (s : State) (v : Word64) : (s.writeRflags v).xcr0 = s.xcr0 := by unfold State.writeRflags; split <;> rfl
@[simp] theorem writeRflags_xss (s : State) (v : Word64) : (s.writeRflags v).xss = s.xss := by unfold State.writeRflags; split <;> rfl
@[simp] theorem writeRflags_miscEnable (s : State) (v : Word64) : (s.writeRflags v).miscEnable = s.miscEnable := by unfold State.writeRflags; split <;> rfl
@[simp] theorem writeRflags_biosSignId (s : State) (v : Word64) : (s.writeRflags v).biosSignId = s.biosSignId := by unfold State.writeRflags; split <;> rfl
@[simp] theorem writeRflags_dcaCap (s : State) (v : Word64) : (s.writeRflags v).dcaCap = s.dcaCap := by unfold State.writeRflags; split <;> rfl
@[simp] theorem writeRflags_psnEnabled (s : State) (v : Word64) : (s.writeRflags v).psnEnabled = s.psnEnabled := by unfold State.writeRflags; split <;> rfl
@[simp] theorem writeRflags_aeskle (s : State) (v : Word64) : (s.writeRflags v).aeskle = s.aeskle := by unfold State.writeRflags; split <;> rfl
@[simp] theorem writeRflags_mem (s : State) (v : Word64) : (s.writeRflags v).mem = s.mem := by unfold State.writeRflags; split <;> rfl
@[simp] theorem writeRflags_storeBuffer (s : State) (v : Word64) : (s.writeRflags v).storeBuffer = s.storeBuffer := by unfold State.writeRflags; split <;> rfl
@[simp] theorem writeRflags_prefetched (s : State) (v : Word64) : (s.writeRflags v).prefetched = s.prefetched := by unfold State.writeRflags; split <;> rfl
@[simp] theorem writeRflags_freeIndex (s : State) (v : Word64) : (s.writeRflags v).freeIndex = s.freeIndex := by unfold State.writeRflags; split <;> rfl
@[simp] theorem writeRflags_cfg (s : State) (v : Word64) : (s.writeRflags v).cfg = s.cfg := by unfold State.writeRflags; split <;> rfl

/-! `State.writeMiscEnable`. -/

@[simp] theorem writeMiscEnable_rax (s : State) (v : Word64) : (s.writeMiscEnable v).rax = s.rax := by unfold State.writeMiscEnable; split <;> rfl
@[simp] theorem writeMiscEnable_rbx (s : State) (v : Word64) : (s.writeMiscEnable v).rbx = s.rbx := by unfold State.writeMiscEnable; split <;> rfl
@[simp] theorem writeMiscEnable_rcx (s : State) (v : Word64) : (s.writeMiscEnable v).rcx = s.rcx := by unfold State.writeMiscEnable; split <;> rfl
@[simp] theorem writeMiscEnable_rdx (s : State) (v : Word64) : (s.writeMiscEnable v).rdx = s.rdx := by unfold State.writeMiscEnable; split <;> rfl
@[simp] theorem writeMiscEnable_pc (s : State) (v : Word64) : (s.writeMiscEnable v).pc = s.pc := by unfold State.writeMiscEnable; split <;> rfl
@[simp] theorem writeMiscEnable_rflags (s : State) (v : Word64) : (s.writeMiscEnable v).rflags = s.rflags := by unfold State.writeMiscEnable; split <;> rfl
@[simp] theorem writeMiscEnable_cpl (s : State) (v : Word64) : (s.writeMiscEnable v).cpl = s.cpl := by unfold State.writeMiscEnable; split <;> rfl
@[simp] theorem writeMiscEnable_mode64 (s : State) (v : Word64) : (s.writeMiscEnable v).mode64 = s.mode64 := by unfold State.writeMiscEnable; split <;> rfl
@[simp] theorem writeMiscEnable_cr4Osxsave (s : State) (v : Word64) : (s.writeMiscEnable v).cr4Osxsave = s.cr4Osxsave := by unfold State.writeMiscEnable; split <;> rfl
@[simp] theorem writeMiscEnable_cr4Pke (s : State) (v : Word64) : (s.writeMiscEnable v).cr4Pke = s.cr4Pke := by unfold State.writeMiscEnable; split <;> rfl
@[simp] theorem writeMiscEnable_xcr0 (s : State) (v : Word64) : (s.writeMiscEnable v).xcr0 = s.xcr0 := by unfold State.writeMiscEnable; split <;> rfl
@[simp] theorem writeMiscEnable_xss (s : State) (v : Word64) : (s.writeMiscEnable v).xss = s.xss := by unfold State.writeMiscEnable; split <;> rfl
@[simp] theorem writeMiscEnable_biosSignId (s : State) (v : Word64) : (s.writeMiscEnable v).biosSignId = s.biosSignId := by unfold State.writeMiscEnable; split <;> rfl
@[simp] theorem writeMiscEnable_dcaCap (s : State) (v : Word64) : (s.writeMiscEnable v).dcaCap = s.dcaCap := by unfold State.writeMiscEnable; split <;> rfl
@[simp] theorem writeMiscEnable_psnEnabled (s : State) (v : Word64) : (s.writeMiscEnable v).psnEnabled = s.psnEnabled := by unfold State.writeMiscEnable; split <;> rfl
@[simp] theorem writeMiscEnable_aeskle (s : State) (v : Word64) : (s.writeMiscEnable v).aeskle = s.aeskle := by unfold State.writeMiscEnable; split <;> rfl
@[simp] theorem writeMiscEnable_mem (s : State) (v : Word64) : (s.writeMiscEnable v).mem = s.mem := by unfold State.writeMiscEnable; split <;> rfl
@[simp] theorem writeMiscEnable_storeBuffer (s : State) (v : Word64) : (s.writeMiscEnable v).storeBuffer = s.storeBuffer := by unfold State.writeMiscEnable; split <;> rfl
@[simp] theorem writeMiscEnable_prefetched (s : State) (v : Word64) : (s.writeMiscEnable v).prefetched = s.prefetched := by unfold State.writeMiscEnable; split <;> rfl
@[simp] theorem writeMiscEnable_freeIndex (s : State) (v : Word64) : (s.writeMiscEnable v).freeIndex = s.freeIndex := by unfold State.writeMiscEnable; split <;> rfl
@[simp] theorem writeMiscEnable_cfg (s : State) (v : Word64) : (s.writeMiscEnable v).cfg = s.cfg := by unfold State.writeMiscEnable; split <;> rfl

/-! `State.placeAt`. -/

@[simp] theorem placeAt_rax (s : State) (bs : List Byte) (k : Nat) : (s.placeAt bs k).rax = s.rax := by
  induction bs generalizing s k with
  | nil => rfl
  | cons b bs ih => simp [State.placeAt, ih]
@[simp] theorem placeAt_rbx (s : State) (bs : List Byte) (k : Nat) : (s.placeAt bs k).rbx = s.rbx := by
  induction bs generalizing s k with
  | nil => rfl
  | cons b bs ih => simp [State.placeAt, ih]
@[simp] theorem placeAt_rcx (s : State) (bs : List Byte) (k : Nat) : (s.placeAt bs k).rcx = s.rcx := by
  induction bs generalizing s k with
  | nil => rfl
  | cons b bs ih => simp [State.placeAt, ih]
@[simp] theorem placeAt_rdx (s : State) (bs : List Byte) (k : Nat) : (s.placeAt bs k).rdx = s.rdx := by
  induction bs generalizing s k with
  | nil => rfl
  | cons b bs ih => simp [State.placeAt, ih]
@[simp] theorem placeAt_pc (s : State) (bs : List Byte) (k : Nat) : (s.placeAt bs k).pc = s.pc := by
  induction bs generalizing s k with
  | nil => rfl
  | cons b bs ih => simp [State.placeAt, ih]
@[simp] theorem placeAt_rflags (s : State) (bs : List Byte) (k : Nat) : (s.placeAt bs k).rflags = s.rflags := by
  induction bs generalizing s k with
  | nil => rfl
  | cons b bs ih => simp [State.placeAt, ih]
@[simp] theorem placeAt_cpl (s : State) (bs : List Byte) (k : Nat) : (s.placeAt bs k).cpl = s.cpl := by
  induction bs generalizing s k with
  | nil => rfl
  | cons b bs ih => simp [State.placeAt, ih]
@[simp] theorem placeAt_mode64 (s : State) (bs : List Byte) (k : Nat) : (s.placeAt bs k).mode64 = s.mode64 := by
  induction bs generalizing s k with
  | nil => rfl
  | cons b bs ih => simp [State.placeAt, ih]
@[simp] theorem placeAt_cr4Osxsave (s : State) (bs : List Byte) (k : Nat) : (s.placeAt bs k).cr4Osxsave = s.cr4Osxsave := by
  induction bs generalizing s k with
  | nil => rfl
  | cons b bs ih => simp [State.placeAt, ih]
@[simp] theorem placeAt_cr4Pke (s : State) (bs : List Byte) (k : Nat) : (s.placeAt bs k).cr4Pke = s.cr4Pke := by
  induction bs generalizing s k with
  | nil => rfl
  | cons b bs ih => simp [State.placeAt, ih]
@[simp] theorem placeAt_xcr0 (s : State) (bs : List Byte) (k : Nat) : (s.placeAt bs k).xcr0 = s.xcr0 := by
  induction bs generalizing s k with
  | nil => rfl
  | cons b bs ih => simp [State.placeAt, ih]
@[simp] theorem placeAt_xss (s : State) (bs : List Byte) (k : Nat) : (s.placeAt bs k).xss = s.xss := by
  induction bs generalizing s k with
  | nil => rfl
  | cons b bs ih => simp [State.placeAt, ih]
@[simp] theorem placeAt_miscEnable (s : State) (bs : List Byte) (k : Nat) : (s.placeAt bs k).miscEnable = s.miscEnable := by
  induction bs generalizing s k with
  | nil => rfl
  | cons b bs ih => simp [State.placeAt, ih]
@[simp] theorem placeAt_biosSignId (s : State) (bs : List Byte) (k : Nat) : (s.placeAt bs k).biosSignId = s.biosSignId := by
  induction bs generalizing s k with
  | nil => rfl
  | cons b bs ih => simp [State.placeAt, ih]
@[simp] theorem placeAt_dcaCap (s : State) (bs : List Byte) (k : Nat) : (s.placeAt bs k).dcaCap = s.dcaCap := by
  induction bs generalizing s k with
  | nil => rfl
  | cons b bs ih => simp [State.placeAt, ih]
@[simp] theorem placeAt_psnEnabled (s : State) (bs : List Byte) (k : Nat) : (s.placeAt bs k).psnEnabled = s.psnEnabled := by
  induction bs generalizing s k with
  | nil => rfl
  | cons b bs ih => simp [State.placeAt, ih]
@[simp] theorem placeAt_aeskle (s : State) (bs : List Byte) (k : Nat) : (s.placeAt bs k).aeskle = s.aeskle := by
  induction bs generalizing s k with
  | nil => rfl
  | cons b bs ih => simp [State.placeAt, ih]
@[simp] theorem placeAt_freeIndex (s : State) (bs : List Byte) (k : Nat) : (s.placeAt bs k).freeIndex = s.freeIndex := by
  induction bs generalizing s k with
  | nil => rfl
  | cons b bs ih => simp [State.placeAt, ih]
@[simp] theorem placeAt_cfg (s : State) (bs : List Byte) (k : Nat) : (s.placeAt bs k).cfg = s.cfg := by
  induction bs generalizing s k with
  | nil => rfl
  | cons b bs ih => simp [State.placeAt, ih]

/-! `State.completeCpuid`: what it leaves unchanged (R24, R26). -/

@[simp] theorem completeCpuid_rflags (s : State) : (s.completeCpuid).rflags = s.rflags := by simp [State.completeCpuid]
@[simp] theorem completeCpuid_cpl (s : State) : (s.completeCpuid).cpl = s.cpl := by simp [State.completeCpuid]
@[simp] theorem completeCpuid_mode64 (s : State) : (s.completeCpuid).mode64 = s.mode64 := by simp [State.completeCpuid]
@[simp] theorem completeCpuid_cr4Osxsave (s : State) : (s.completeCpuid).cr4Osxsave = s.cr4Osxsave := by simp [State.completeCpuid]
@[simp] theorem completeCpuid_cr4Pke (s : State) : (s.completeCpuid).cr4Pke = s.cr4Pke := by simp [State.completeCpuid]
@[simp] theorem completeCpuid_xcr0 (s : State) : (s.completeCpuid).xcr0 = s.xcr0 := by simp [State.completeCpuid]
@[simp] theorem completeCpuid_xss (s : State) : (s.completeCpuid).xss = s.xss := by simp [State.completeCpuid]
@[simp] theorem completeCpuid_miscEnable (s : State) : (s.completeCpuid).miscEnable = s.miscEnable := by simp [State.completeCpuid]
@[simp] theorem completeCpuid_dcaCap (s : State) : (s.completeCpuid).dcaCap = s.dcaCap := by simp [State.completeCpuid]
@[simp] theorem completeCpuid_psnEnabled (s : State) : (s.completeCpuid).psnEnabled = s.psnEnabled := by simp [State.completeCpuid]
@[simp] theorem completeCpuid_aeskle (s : State) : (s.completeCpuid).aeskle = s.aeskle := by simp [State.completeCpuid]
@[simp] theorem completeCpuid_cfg (s : State) : (s.completeCpuid).cfg = s.cfg := by simp [State.completeCpuid]

/-! `State.completeCpuid`: what it changes (R100). -/

@[simp] theorem completeCpuid_rax (s : State) :
    s.completeCpuid.rax = (s.cpuidValues s.leafOperand s.subleafOperand).eax.setWidth 64 := by simp [State.completeCpuid]
@[simp] theorem completeCpuid_rbx (s : State) :
    s.completeCpuid.rbx = (s.cpuidValues s.leafOperand s.subleafOperand).ebx.setWidth 64 := by simp [State.completeCpuid]
@[simp] theorem completeCpuid_rcx (s : State) :
    s.completeCpuid.rcx = (s.cpuidValues s.leafOperand s.subleafOperand).ecx.setWidth 64 := by simp [State.completeCpuid]
@[simp] theorem completeCpuid_rdx (s : State) :
    s.completeCpuid.rdx = (s.cpuidValues s.leafOperand s.subleafOperand).edx.setWidth 64 := by simp [State.completeCpuid]
@[simp] theorem completeCpuid_pc (s : State) :
    s.completeCpuid.pc = s.pcAfter 2 := by
  simp [State.completeCpuid, State.pcAfter, State.pcFits]; rfl
@[simp] theorem completeCpuid_biosSignId (s : State) :
    s.completeCpuid.biosSignId = if s.cfg.microcodeFacility then
      joinWords s.cfg.microcodeSignature (Config.freeSignatureLow s.cfg.lp.x2apicId s.freeIndex) else s.biosSignId := by
  simp [State.completeCpuid]
@[simp] theorem completeCpuid_freeIndex (s : State) :
    s.completeCpuid.freeIndex = if s.cfg.microcodeFacility then s.freeIndex + 1 else s.freeIndex := by
  simp [State.completeCpuid]
@[simp] theorem completeCpuid_mem (s : State) : s.completeCpuid.mem = s.mem.drain s.storeBuffer := by
  simp [State.completeCpuid]
@[simp] theorem completeCpuid_storeBuffer (s : State) : s.completeCpuid.storeBuffer = [] := by
  simp [State.completeCpuid]
@[simp] theorem completeCpuid_prefetched (s : State) : s.completeCpuid.prefetched = [] := by
  simp [State.completeCpuid]

end Sys2Proof.Laws
end

