-- ==== Sys2Proof/Laws/Leaf.lean ====
section
/-! SUPPORT. Leaf selection and the data of a leaf: which state they depend on, and what an execution that selects a given
leaf returns. -/

namespace Sys2Proof.Laws

open Sys2Proof.Machine

/-! What an execution returns. -/

theorem setWidth_inj {a b : Word32} : a.setWidth 64 = b.setWidth 64 ↔ a = b := by
  constructor
  · intro h
    have h2 := congrArg (fun x : Word64 => x.setWidth 32) h
    simpa using h2
  · rintro rfl; rfl

@[simp] theorem setWidth_up_down (a : Word32) : (a.setWidth 64).setWidth 32 = a := by simp

/-- The leaf and the sub-leaf of a second `CPUID` are the first and the third output of the first (R54). -/
@[simp] theorem completeCpuid_leafOperand (s : State) :
    s.completeCpuid.leafOperand = (s.cpuidValues s.leafOperand s.subleafOperand).eax := by
  rw [State.leafOperand, State.reg32, State.reg, completeCpuid_rax, setWidth_up_down]
@[simp] theorem completeCpuid_subleafOperand (s : State) :
    s.completeCpuid.subleafOperand = (s.cpuidValues s.leafOperand s.subleafOperand).ecx := by
  rw [State.subleafOperand, State.reg32, State.reg, completeCpuid_rcx, setWidth_up_down]

/-! The registers of a page. -/

@[simp] theorem page_eax (s : State) (leaf sub : Word32) (l : Layout) :
    (s.page leaf sub l).eax = renderReg l.eax (s.cfg.raw leaf sub).eax (s.dynValue sub (s.cfg.raw leaf sub)) := rfl
@[simp] theorem page_ebx (s : State) (leaf sub : Word32) (l : Layout) :
    (s.page leaf sub l).ebx = renderReg l.ebx (s.cfg.raw leaf sub).ebx (s.dynValue sub (s.cfg.raw leaf sub)) := rfl
@[simp] theorem page_ecx (s : State) (leaf sub : Word32) (l : Layout) :
    (s.page leaf sub l).ecx = renderReg l.ecx (s.cfg.raw leaf sub).ecx (s.dynValue sub (s.cfg.raw leaf sub)) := rfl
@[simp] theorem page_edx (s : State) (leaf sub : Word32) (l : Layout) :
    (s.page leaf sub l).edx = renderReg l.edx (s.cfg.raw leaf sub).edx (s.dynValue sub (s.cfg.raw leaf sub)) := rfl

theorem exec_cpuid_next (s : State) (h : s.cfg.cpuidSupported = true) : exec .cpuid s = .next s.completeCpuid := by
  simp [exec, execCpuid, h]

theorem exec_cpuid_inv (s t : State) (h : exec .cpuid s = .next t) :
    s.cfg.cpuidSupported = true ∧ t = s.completeCpuid := by
  simp only [exec, execCpuid, State.raiseUd] at h
  split at h
  · rename_i hs
    exact ⟨hs, by cases h; rfl⟩
  · cases h

theorem returns_cpuidValues (s : State) (h : s.cfg.cpuidSupported = true) :
    s.Returns (s.cpuidValues s.leafOperand s.subleafOperand) :=
  ⟨_, exec_cpuid_next s h, by simp, by simp, by simp, by simp⟩

theorem returns_iff (s : State) (q : Quad) :
    s.Returns q ↔ s.cfg.cpuidSupported = true ∧ q = s.cpuidValues s.leafOperand s.subleafOperand := by
  constructor
  · rintro ⟨t, ht, ha, hb, hc, hd⟩
    obtain ⟨hs, rfl⟩ := exec_cpuid_inv s t ht
    refine ⟨hs, ?_⟩
    simp only [completeCpuid_rax, completeCpuid_rbx, completeCpuid_rcx, completeCpuid_rdx, setWidth_inj] at ha hb hc hd
    cases q
    subst ha hb hc hd
    rfl
  · rintro ⟨hs, rfl⟩
    exact returns_cpuidValues s hs

/-- An execution that selects a supported leaf returns that leaf's data. -/
theorem returns_of_queries (s : State) (leaf : Word32) (h : s.Queries leaf) :
    s.Returns (s.leafValues leaf (s.subFor leaf s.subleafOperand)) := by
  obtain ⟨⟨hs, hl⟩, hp⟩ := h
  rw [returns_iff]
  exact ⟨hs, by simp [State.cpuidValues, State.leafData, hl, hp]⟩

/-- An execution that selects an unsupported leaf returns zeros. -/
theorem returns_of_unsupported (s : State) (leaf : Word32) (h : s.Selects leaf) (hp : s.cfg.supports leaf = false) :
    s.Returns Quad.zero := by
  obtain ⟨hs, hl⟩ := h
  rw [returns_iff]
  exact ⟨hs, by simp [State.cpuidValues, State.leafData, hl, hp]⟩

theorem subFor_uses (s : State) (leaf ecx : Word32) (hp : s.cfg.supports leaf = true)
    (hu : (LeafId.ofWord leaf).usesSubleaf = true) : s.subFor leaf ecx = ecx := by
  simp [State.subFor, State.usesSubleaf, hp, hu]

theorem subFor_ignores (s : State) (leaf ecx : Word32) (hu : (LeafId.ofWord leaf).usesSubleaf = false) :
    s.subFor leaf ecx = 0 := by
  simp [State.subFor, State.usesSubleaf, hu]

/-- The data of a leaf whose output depends on ECX, with the ECX of the state. -/
theorem returns_of_queries_sub (s : State) (leaf : Word32) (h : s.Queries leaf)
    (hu : (LeafId.ofWord leaf).usesSubleaf = true) : s.Returns (s.leafValues leaf s.subleafOperand) := by
  have := returns_of_queries s leaf h
  rwa [subFor_uses s leaf _ h.2 hu] at this

/-- A leaf with one layout, whatever ECX holds. -/
theorem returns_page (s : State) (leaf : Word32) (l : Layout) (h : s.Queries leaf)
    (hl : ∀ n, s.leafValues leaf n = s.page leaf 0 l) : s.Returns (s.page leaf 0 l) :=
  hl _ ▸ returns_of_queries s leaf h

/-- The data a selected leaf returns, supported or not. -/
theorem returns_leafData (s : State) (leaf : Word32) (h : s.Selects leaf) :
    s.Returns (s.leafData leaf (s.subFor leaf s.subleafOperand)) := by
  rw [returns_iff]; exact ⟨h.1, by rw [State.cpuidValues, h.2]⟩

/-! The run-time inputs. -/

theorem effMaxBasic_congr {s s' : State} (h : s.SameInputs s') : s.effMaxBasic = s'.effMaxBasic := by
  unfold State.effMaxBasic State.maxLeafLimited
  rw [h.cfg, h.limit]

theorem select_congr {s s' : State} (h : s.SameInputs s') (leaf : Word32) : s.select leaf = s'.select leaf := by
  simp only [State.select, effMaxBasic_congr h, h.cfg]

theorem dynValue_congr {s s' : State} (h : s.SameInputs s') (sub : Word32) (raw : Quad) :
    s.dynValue sub raw = s'.dynValue sub raw := by
  funext d
  cases d <;>
    simp only [State.dynValue, effMaxBasic_congr h, h.cfg, h.osxsave, h.pke, h.xcr0, h.xss, h.dcaCap, h.mode64, h.aeskle,
      h.psnEnabled]

theorem page_congr {s s' : State} (h : s.SameInputs s') (leaf sub : Word32) (l : Layout) :
    s.page leaf sub l = s'.page leaf sub l := by
  simp only [State.page, dynValue_congr h, h.cfg]

theorem leafValues_congr {s s' : State} (h : s.SameInputs s') (leaf sub : Word32) :
    s.leafValues leaf sub = s'.leafValues leaf sub := by
  have hp : ∀ a b l, s.page a b l = s'.page a b l := page_congr h
  unfold State.leafValues
  cases LeafId.ofWord leaf <;>
    simp only [State.leaf04, State.leaf07, State.leaf0B, State.leaf0D, State.leaf0F, State.leaf10, State.leaf12,
      State.leaf14, State.leaf17, State.leaf18, State.leaf1B, State.leaf1D, State.leaf1F, State.leaf23, State.mainOnly,
      hp, h.cfg]

theorem subFor_congr {s s' : State} (h : s.SameInputs s') (leaf ecx : Word32) : s.subFor leaf ecx = s'.subFor leaf ecx := by
  unfold State.subFor State.usesSubleaf
  rw [h.cfg]

/-- The values `CPUID` returns depend on the state only through the inputs of R9. -/
theorem cpuidValues_congr {s s' : State} (h : s.SameInputs s') (eax ecx : Word32) :
    s.cpuidValues eax ecx = s'.cpuidValues eax ecx := by
  simp only [State.cpuidValues, State.leafData, leafValues_congr h, select_congr h, subFor_congr h, h.cfg]

/-! Another sub-leaf in ECX. -/

theorem sameInputs_withSub (s : State) (n : Word32) : (s.withSub n).SameInputs s :=
  ⟨rfl, rfl, rfl, rfl, rfl, rfl, rfl, rfl, rfl, rfl⟩

@[simp] theorem withSub_cfg (s : State) (n : Word32) : (s.withSub n).cfg = s.cfg := rfl
@[simp] theorem withSub_leafOperand (s : State) (n : Word32) : (s.withSub n).leafOperand = s.leafOperand := rfl
@[simp] theorem withSub_subleafOperand (s : State) (n : Word32) : (s.withSub n).subleafOperand = n := by
  simp [State.withSub, State.subleafOperand, State.reg32, State.writeReg32, State.setReg, State.reg]
@[simp] theorem withSub_select (s : State) (n leaf : Word32) : (s.withSub n).select leaf = s.select leaf := rfl
@[simp] theorem withSub_leafValues (s : State) (n leaf sub : Word32) :
    (s.withSub n).leafValues leaf sub = s.leafValues leaf sub := leafValues_congr (sameInputs_withSub s n) leaf sub
@[simp] theorem withSub_queries (s : State) (n leaf : Word32) : (s.withSub n).Queries leaf ↔ s.Queries leaf := Iff.rfl

/-- The same leaf queried with another sub-leaf returns that sub-leaf's data. -/
theorem returns_withSub (s : State) (leaf n : Word32) (h : s.Queries leaf)
    (hu : (LeafId.ofWord leaf).usesSubleaf = true) : (s.withSub n).Returns (s.leafValues leaf n) := by
  have := returns_of_queries_sub (s.withSub n) leaf ((withSub_queries s n leaf).2 h) hu
  simpa using this

/-! Selection. -/

theorem select_le (s : State) (leaf : Word32) (h : leaf ≤ s.effMaxBasic) : s.select leaf = leaf := by
  simp [State.select, h]

theorem effMaxBasic_le (s : State) : s.effMaxBasic ≤ s.cfg.maxBasicWord := by
  simp only [State.effMaxBasic]
  split
  · split
    · exact BitVec.le_refl _
    · rename_i h; bv_omega
  · exact BitVec.le_refl _

theorem maxBasicWord_toNat_lt (c : Cfg) : c.maxBasicWord.toNat < 2 ^ 30 := by
  have := c.maxBasic.isLt
  simp [Cfg.maxBasicWord]
  omega

theorem effMaxBasic_toNat_lt (s : State) : s.effMaxBasic.toNat < 2 ^ 30 := by
  have h1 := maxBasicWord_toNat_lt s.cfg
  have h2 := BitVec.le_def.1 (effMaxBasic_le s)
  omega

/-- A selected leaf is in the basic or the extended range of the processor. -/
theorem inRange_select (s : State) (leaf : Word32) : s.cfg.inRange (s.select leaf) = true := by
  simp only [Cfg.inRange, Bool.or_eq_true, Bool.and_eq_true, decide_eq_true_eq]
  have hm := effMaxBasic_le s
  simp only [State.select]
  split
  · rename_i h; left; bv_omega
  · split
    · rename_i h; right; exact h
    · left; exact hm

theorem inRange_of_selects (s : State) (leaf : Word32) (h : s.Selects leaf) : s.cfg.inRange leaf = true :=
  h.2 ▸ inRange_select s s.leafOperand

/-- An input between the maximum basic leaf and the extended range, or above it, selects the highest basic leaf. -/
theorem select_out (s : State) (leaf : Word32) (h1 : s.effMaxBasic < leaf)
    (h2 : leaf < 0x80000000#32 ∨ s.cfg.maxExt < leaf) : s.select leaf = s.effMaxBasic := by
  unfold State.select
  rw [if_neg (by bv_omega), if_neg (by rcases h2 with h2 | h2 <;> bv_omega)]

/-- An extended leaf selects itself. -/
theorem select_ext (s : State) (leaf : Word32) (h1 : 0x80000000#32 ≤ leaf) (h2 : leaf ≤ s.cfg.maxExt) :
    s.select leaf = leaf := by
  unfold State.select
  split
  · rfl
  · rw [if_pos ⟨h1, h2⟩]

/-- A leaf whose support the configuration lists is implemented when it is queried. -/
theorem implements_of_queries (s : State) (leaf : Word32) (h : s.Queries leaf)
    (hs : s.cfg.supports leaf = s.cfg.supported.contains leaf) : s.cfg.implements leaf = true := by
  simp only [Cfg.implements, inRange_of_selects s leaf h.1, ← hs, h.2, Bool.and_self]

/-- Where leaf 0DH is queried, XCR0 and IA32_XSS are read from its constants. -/
theorem leaf0D_of_queries (s : State) (h : s.Queries 0xD) (sub : Word32) : s.cfg.leaf0D sub = s.cfg.raw 0xD sub := by
  rw [Cfg.leaf0D, if_pos (implements_of_queries s 0xD h rfl)]

/-- A named leaf stands in the table under its number. -/
theorem ofWord_mem (w : Word32) (id : LeafId) (h : LeafId.ofWord w = id) (ho : id ≠ .other) : (w, id) ∈ leafNumbers := by
  unfold LeafId.ofWord at h
  split at h
  · rename_i p hp
    have h2 := List.find?_some hp
    simp only [beq_iff_eq] at h2
    rw [← h2, ← h]
    exact List.mem_of_find?_eq_some hp
  · exact absurd h.symm ho

/-! The checks of an admissible configuration, one by one. -/

theorem admissible_leaf02Defined (c : Cfg) (h : c.admissible = true) : c.leaf02Defined = true := by
  simp only [Cfg.admissible, Bool.and_eq_true] at h; tauto
theorem admissible_cachesTyped (c : Cfg) (h : c.admissible = true) : c.cachesTyped = true := by
  simp only [Cfg.admissible, Bool.and_eq_true] at h; tauto
theorem admissible_topologyReported (c : Cfg) (h : c.admissible = true) : c.topologyReported = true := by
  simp only [Cfg.admissible, Bool.and_eq_true] at h; tauto
theorem admissible_topologyV2Reported (c : Cfg) (h : c.admissible = true) : c.topologyV2Reported = true := by
  simp only [Cfg.admissible, Bool.and_eq_true] at h; tauto
theorem admissible_componentsDisjoint (c : Cfg) (h : c.admissible = true) : c.componentsDisjoint = true := by
  simp only [Cfg.admissible, Bool.and_eq_true] at h; tauto
theorem admissible_socBrandPresent (c : Cfg) (h : c.admissible = true) : c.socBrandPresent = true := by
  simp only [Cfg.admissible, Bool.and_eq_true] at h; tauto
theorem admissible_pconfigTyped (c : Cfg) (h : c.admissible = true) : c.pconfigTyped = true := by
  simp only [Cfg.admissible, Bool.and_eq_true] at h; tauto
theorem admissible_announcedPresent (c : Cfg) (h : c.admissible = true) : c.announcedPresent = true := by
  simp only [Cfg.admissible, Bool.and_eq_true] at h; tauto
theorem admissible_fixedCountersInRange (c : Cfg) (h : c.admissible = true) : c.fixedCountersInRange = true := by
  simp only [Cfg.admissible, Bool.and_eq_true] at h; tauto
theorem admissible_brandTerminated (c : Cfg) (h : c.admissible = true) : c.brandTerminated = true := by
  simp only [Cfg.admissible, Bool.and_eq_true] at h; tauto
theorem admissible_tlbsLevelled (c : Cfg) (h : c.admissible = true) : c.tlbsLevelled = true := by
  simp only [Cfg.admissible, Bool.and_eq_true] at h; tauto
theorem admissible_socBrandPadded (c : Cfg) (h : c.admissible = true) : c.socBrandPadded = true := by
  simp only [Cfg.admissible, Bool.and_eq_true] at h; tauto
theorem admissible_serialNumberRetired (c : Cfg) (h : c.admissible = true) : c.serialNumberRetired = true := by
  simp only [Cfg.admissible, Bool.and_eq_true] at h; tauto
theorem admissible_lastLeafBelowExtended (c : Cfg) (h : c.admissible = true) : c.lastLeafBelowExtended = true := by
  simp only [Cfg.admissible, Bool.and_eq_true] at h; tauto
theorem admissible_brandIndexRetired (c : Cfg) (h : c.admissible = true) : c.brandIndexRetired = true := by
  simp only [Cfg.admissible, Bool.and_eq_true] at h; tauto

/-- Without extended functions the EAX constants of the highest basic leaf are below 80000000H. -/
theorem raw_eax_last (c : Cfg) (h : c.lastLeafBelowExtended = true) (hx : c.hasExtended = false) (sub : Word32) :
    (c.raw c.maxBasicWord sub).eax.getLsbD 31 = false := by
  simp only [Cfg.lastLeafBelowExtended, hx, Bool.false_or, Bool.and_eq_true, List.all_eq_true] at h
  unfold Cfg.raw
  split
  · rename_i e he
    have hm := h.1 e (List.mem_of_find?_eq_some he)
    have hl := List.find?_some he
    simp only [Bool.and_eq_true, beq_iff_eq] at hl
    simpa [hl.1, Machine.bit] using hm
  · simp [hx]

/-- The same of leaf 02H where IA32_MISC_ENABLE[22] can make it the highest. -/
theorem raw_eax_limited (c : Cfg) (h : c.lastLeafBelowExtended = true) (hx : c.hasExtended = false)
    (hr : c.limitRemovable = true) (hm : 2#32 ≤ c.maxBasicWord) (hs : c.supports 2 = true) :
    (c.raw 2 0).eax.getLsbD 31 = false := by
  simp only [Cfg.lastLeafBelowExtended, hx, hr, hs, hm, decide_true, Bool.false_or, Bool.and_eq_true, Bool.and_self,
    Bool.not_true, Bool.not_eq_true'] at h
  exact h.2

end Sys2Proof.Laws
end

