-- ==== Sys2Proof/Laws/Memory.lean ====
section
/-! SUPPORT. The laws of memory, of the pending stores and of the fetch. -/

namespace Sys2Proof.Laws

open Sys2Proof.Machine

/-- A read of the written address gives the written byte. -/
@[simp] theorem read_write_same (m : Mem) (a : Nat) (b : Byte) : (m.write a b).read a = some b := by
  induction m with
  | nil => simp [Mem.write, Mem.read]
  | cons c rest ih =>
    obtain ⟨k, x⟩ := c
    simp only [Mem.write]
    split
    · simp [Mem.read]
    · split
      · simp [Mem.read]
      · rename_i h; simp [Mem.read, Ne.symm h, ih]

/-- A write leaves every other address alone. -/
theorem read_write_other (m : Mem) {a x : Nat} (b : Byte) (h : x ≠ a) : (m.write a b).read x = m.read x := by
  induction m with
  | nil => simp [Mem.write, Mem.read, Ne.symm h]
  | cons c rest ih =>
    obtain ⟨k, y⟩ := c
    simp only [Mem.write]
    split
    · simp [Mem.read, Ne.symm h]
    · split
      · rename_i h'; simp [Mem.read, Ne.symm h, ← h']
      · simp [Mem.read, ih]

theorem read_write (m : Mem) (a x : Nat) (b : Byte) :
    (m.write a b).read x = if x = a then some b else m.read x := by
  split
  · rename_i h; subst h; simp
  · rename_i h; exact read_write_other m b h

/-- Writing keeps the addresses rising, above any bound below the written address. -/
theorem risesFrom_write (m : Mem) (o : Option Nat) (a : Nat) (b : Byte) (h : m.risesFrom o = true)
    (ho : ∀ n, o = some n → n < a) : (m.write a b).risesFrom o = true := by
  induction m generalizing o with
  | nil => cases o <;> simp_all [Mem.write, Mem.risesFrom]
  | cons c rest ih =>
    obtain ⟨k, x⟩ := c
    have hrest : Mem.risesFrom (some k) rest = true := by
      cases o <;> simp_all [Mem.risesFrom]
    have hk : ∀ n, o = some n → n < k := by
      intro n hn; subst hn; simp_all [Mem.risesFrom]
    simp only [Mem.write]
    split
    · rename_i hak
      cases o with
      | none => simp [Mem.risesFrom, hak, hrest]
      | some n => simp [Mem.risesFrom, hak, hrest, ho n rfl]
    · split
      · rename_i _ hak
        subst hak
        cases o with
        | none => simp [Mem.risesFrom, hrest]
        | some n => simp [Mem.risesFrom, hrest, ho n rfl]
      · rename_i h1 h2
        have := ih (some k) hrest (by intro n hn; cases hn; omega)
        cases o with
        | none => simpa [Mem.risesFrom] using this
        | some n => simpa [Mem.risesFrom, hk n rfl] using this

/-- A write keeps the canonical form. -/
theorem write_wf (m : Mem) (a : Nat) (b : Byte) (h : m.wf = true) : (m.write a b).wf = true :=
  risesFrom_write m none a b h (by simp)

/-- Performing the pending stores keeps the canonical form. -/
theorem drain_wf (m : Mem) (buffer : List Host.Cell) (h : m.wf = true) : (m.drain buffer).wf = true := by
  induction buffer generalizing m with
  | nil => exact h
  | cons c rest ih => exact ih _ (write_wf m c.1 c.2 h)

/-- After the pending stores are performed, an address reads as the newest of them, else as before. -/
theorem read_drain (m : Mem) (buffer : List Host.Cell) (a : Nat) :
    (m.drain buffer).read a = match newest buffer a with
      | some b => some b
      | none   => m.read a := by
  induction buffer generalizing m with
  | nil => rfl
  | cons c rest ih =>
    obtain ⟨k, x⟩ := c
    have step : Mem.drain m ((k, x) :: rest) = Mem.drain (m.write k x) rest := rfl
    rw [step, ih]
    simp only [newest]
    cases h : newest rest a with
    | some b => simp
    | none =>
      by_cases hk : k = a
      · subst hk; simp
      · simp [hk, read_write_other m x (Ne.symm hk)]

/-- Serialisation changes no byte in program order (R55). -/
@[simp] theorem readByte_serialize (s : State) (a : Nat) : s.serialize.readByte a = s.readByte a := by
  cases h : newest s.storeBuffer a <;> simp [State.readByte, State.serialize, newest, read_drain, h]

/-- With nothing pending and nothing prefetched, the fetch gets the byte of program order. -/
theorem fetchByte_settled (s : State) (a : Nat) (hb : s.storeBuffer = []) (hp : s.prefetched = []) :
    s.fetchByte a = s.readByte a := by
  simp [State.fetchByte, State.readByte, hb, hp, newest]

/-- After serialisation the fetch gets the byte of program order (R58). -/
theorem fetchByte_serialize (s : State) (a : Nat) : s.serialize.fetchByte a = s.readByte a := by
  rw [fetchByte_settled _ _ rfl rfl, readByte_serialize]

end Sys2Proof.Laws
end

