-- ==== Sys2Proof/Laws/Ops.lean ====
section
/-! SUPPORT. One lemma for what each shared operation of Ops.lean can do: the pc, the signature, the pending stores, and
the two writes by software. -/

namespace Sys2Proof.Laws

open Sys2Proof.Machine

/-- A truncated address is the address modulo the width of the pc. -/
theorem truncatePc_toNat (width : Nat) (v : Word64) : (truncatePc width v).toNat = v.toNat % 2 ^ width := by
  simp only [truncatePc, BitVec.toNat_setWidth]
  apply Nat.mod_eq_of_lt
  exact lt_of_le_of_lt (Nat.mod_le _ _) v.isLt

/-- A truncated address is below 2^width. -/
theorem truncatePc_lt (width : Nat) (v : Word64) : (truncatePc width v).toNat < 2 ^ width := by
  rw [truncatePc_toNat]; exact Nat.mod_lt _ (Nat.two_pow_pos width)

/-- An address that fits the width of the pc is the exact sum. -/
theorem pcAfter_fits {s : State} {n : Nat} (h : s.pcFits n = true) : (s.pcAfter n).toNat = s.pc.toNat + n := by
  have hlt : s.pc.toNat + n < 2 ^ 64 :=
    lt_of_lt_of_le (of_decide_eq_true h) (Nat.pow_le_pow_right (by decide) (Nat.min_le_right _ _))
  rw [State.pcAfter, if_pos h, BitVec.toNat_add, BitVec.toNat_ofNat]
  omega

/-- Every pc an execution leaves is below 2^width. -/
theorem pcAfter_lt (s : State) (n : Nat) : (s.pcAfter n).toNat < 2 ^ s.cfg.pcWidth := by
  by_cases h : s.pcFits n = true
  · rw [pcAfter_fits h]
    exact lt_of_lt_of_le (of_decide_eq_true h) (Nat.pow_le_pow_right (by decide) (Nat.min_le_left _ _))
  · rw [State.pcAfter, if_neg h]; exact truncatePc_lt _ _

/-- `advance` changes the pc alone: to the sum where it fits the width, and else to a free address of that width. -/
theorem advance_spec (s : State) (n : Nat) :
    s.advance n = { s with pc := (s.advance n).pc } ∧ (s.advance n).pc.toNat < 2 ^ s.cfg.pcWidth ∧
      (s.pcFits n = true → (s.advance n).pc.toNat = s.pc.toNat + n) :=
  ⟨rfl, pcAfter_lt _ _, pcAfter_fits⟩

/-- `refuseOverflow` keeps an outcome where the pc fits and keeps every fault. -/
theorem refuseOverflow_fits {s : State} {n : Nat} (h : s.pcFits n = true) (o : Host.Outcome State Fault Refusal) :
    s.refuseOverflow n o = o := by
  cases o <;> simp [State.refuseOverflow, h]

/-- A next state passes `refuseOverflow` only where the pc fits. -/
theorem refuseOverflow_next_inv {s t : State} {n : Nat} {o : Host.Outcome State Fault Refusal}
    (h : s.refuseOverflow n o = .next t) : s.pcFits n = true ∧ o = .next t := by
  cases o with
  | next u =>
    simp only [State.refuseOverflow] at h
    split at h
    · rename_i hf; exact ⟨hf, by cases h; rfl⟩
    · cases h
  | fault f => cases h
  | refused r => cases h

/-- The two halves of a joined pair. -/
@[simp] theorem joinWords_toNat (hi lo : Word32) : (joinWords hi lo).toNat = hi.toNat * 2 ^ 32 + lo.toNat := by
  simp only [joinWords, BitVec.toNat_append]
  rw [Nat.shiftLeft_eq, Nat.mul_comm, Nat.two_pow_add_eq_or_of_lt lo.isLt]

theorem joinWords_getLsbD (hi lo : Word32) (i : Nat) :
    (joinWords hi lo).getLsbD i = if i < 32 then lo.getLsbD i else hi.getLsbD (i - 32) := by
  exact BitVec.getLsbD_append

/-- `loadSignature`: the signature in the upper half and a new free value in the lower, or nothing at all. -/
theorem loadSignature_spec (s : State) :
    (s.cfg.microcodeFacility = true →
      s.loadSignature = { s with biosSignId := joinWords s.cfg.microcodeSignature (Config.freeSignatureLow s.cfg.lp.x2apicId s.freeIndex),
                                 freeIndex := s.freeIndex + 1 }) ∧
      (s.cfg.microcodeFacility = false → s.loadSignature = s) := by
  constructor <;> intro h <;> simp [State.loadSignature, h]

/-- `serialize` empties the buffers and keeps every byte of program order. -/
theorem serialize_spec (s : State) :
    s.serialize.storeBuffer = [] ∧ s.serialize.prefetched = [] ∧
      (∀ a, s.serialize.mem.read a = s.readByte a) ∧ ∀ a, s.serialize.fetchByte a = s.readByte a := by
  refine ⟨rfl, rfl, fun a => ?_, fetchByte_serialize s⟩
  cases h : newest s.storeBuffer a <;> simp [State.serialize, read_drain, State.readByte, h]

@[simp] theorem readByte_completeCpuid (s : State) (a : Nat) : s.completeCpuid.readByte a = s.readByte a := by
  have h := (serialize_spec s).2.2.1 a
  simp only [State.readByte, completeCpuid_storeBuffer, completeCpuid_mem, newest]
  exact h

@[simp] theorem fetchByte_completeCpuid (s : State) (a : Nat) : s.completeCpuid.fetchByte a = s.readByte a := by
  rw [fetchByte_settled _ _ (completeCpuid_storeBuffer s) (completeCpuid_prefetched s), readByte_completeCpuid]

/-- Placing bytes keeps the canonical form of memory. -/
theorem placeAt_wf (bytes : List Byte) (s : State) (k : Nat) (h : s.mem.wf = true) : (s.placeAt bytes k).mem.wf = true := by
  induction bytes generalizing s k with
  | nil => exact h
  | cons b rest ih => exact ih _ _ (write_wf s.mem _ b h)

/-- The memory after reset has the canonical form. -/
theorem reset_mem_wf : State.reset.mem.wf = true := rfl

/-- `raiseUd` is the fault that carries the state. -/
@[simp] theorem raiseUd_eq (s : State) : s.raiseUd = .fault (.ud s) := rfl

/-- A write of RFLAGS: whole with the instruction, and all but the ID flag without it. -/
theorem writeRflags_idFlag (s : State) (v : Word64) :
    (s.writeRflags v).idFlag = if s.cfg.cpuidSupported then v.getLsbD 21 else s.idFlag := by
  unfold State.writeRflags State.idFlag
  split
  · rfl
  · simp

/-- A write of IA32_MISC_ENABLE: bit 22 is 0 where it cannot be set. -/
theorem writeMiscEnable_limit (s : State) (v : Word64) :
    (s.writeMiscEnable v).miscEnable.getLsbD 22 = (v.getLsbD 22 && s.cfg.limitRemovable) := by
  unfold State.writeMiscEnable
  split
  · rename_i h; simp [h]
  · rename_i h; simp [h]

/-- What one execution of each instruction can answer. -/
theorem exec_next_inv {i : Instr} {s t : State} (h : exec i s = .next t) :
    i = .cpuid ∧ s.cfg.cpuidSupported = true ∧ t = s.completeCpuid := by
  cases i with
  | cpuid =>
    simp only [exec, execCpuid, raiseUd_eq] at h
    split at h
    · rename_i hs; cases h; exact ⟨rfl, hs, rfl⟩
    · cases h
  | lockCpuid => cases h

theorem exec_fault_inv {i : Instr} {s : State} {f : Fault} (h : exec i s = .fault f) :
    f = .ud s ∧ (i = .lockCpuid ∨ s.cfg.cpuidSupported = false) := by
  cases i with
  | cpuid =>
    simp only [exec, execCpuid, raiseUd_eq] at h
    split at h
    · cases h
    · rename_i hs; cases h; exact ⟨rfl, .inr (by simpa using hs)⟩
  | lockCpuid => cases h; exact ⟨rfl, .inl rfl⟩

/-- A step at bytes that decode is the execution, unless that takes the pc beyond its width. -/
theorem step_of_decode {s : State} {i : Instr} (h : decode s.fetchWindow = .ok i) :
    step s = s.refuseOverflow i.ilen (exec i s) := by
  simp [step, h]

/-- A step that answers a next state executed an instruction, with the pc within its width. -/
theorem step_next_inv {s t : State} (h : step s = .next t) :
    decode s.fetchWindow = .ok .cpuid ∧ s.cfg.cpuidSupported = true ∧ s.pcFits 2 = true ∧ t = s.completeCpuid := by
  unfold step at h
  split at h
  · rename_i i hd
    obtain ⟨hf, he⟩ := refuseOverflow_next_inv h
    obtain ⟨rfl, hs, rfl⟩ := exec_next_inv he
    exact ⟨hd, hs, hf, rfl⟩
  · unfold State.fetchEnds at h; split at h <;> cases h
  all_goals cases h

end Sys2Proof.Laws
end

