-- ==== Sys2Proof/Laws/PerInstr.lean ====
section
/-! SUPPORT. The statement made once per instruction: its encoding decodes to it, whatever bytes follow. -/

namespace Sys2Proof.Laws

/-- Decoding the encoding of `i`, with any bytes after it, gives `i` (R70, R74). -/
def RoundTrip.Statement (i : Instr) : Prop := ∀ rest : List Byte, decode (encode i ++ rest) = .ok i

theorem RoundTrip.cpuid : RoundTrip.Statement .cpuid := fun _ => rfl

theorem RoundTrip.lockCpuid : RoundTrip.Statement .lockCpuid := fun _ => rfl

end Sys2Proof.Laws
end

