-- ==== Sys2Proof/Tests/Slice0.lean ====
section
/-! SUPPORT. Tests: decoding, ill-formed configurations, the layouts, the vectors of spec/95_test_vectors.md, and for every
statement with hypotheses a state that meets them. -/

namespace Sys2Proof.Tests

-- One theorem after another: many kernel evaluations at once would need a thread each.
set_option Elab.async false

open Sys2Proof.Machine

/-! Decoding. The bytes are those of R70 and R74, written out; F0H is log entry 7. -/

theorem test_decode_cpuid : decode [0x0F, 0xA2] = .ok .cpuid := by decide
theorem test_decode_cpuid_later_bytes : decode [0x0F, 0xA2, 0xFF] = .ok .cpuid := by decide
theorem test_decode_lock_cpuid : decode [0xF0, 0x0F, 0xA2] = .ok .lockCpuid := by decide
theorem test_decode_refusals :
    decode [0x0F, 0xA3, 0x00] = .error .notCpuid ∧ decode [0xA2, 0x0F, 0x00] = .error .notCpuid ∧
      decode [0xF0, 0xF0, 0x0F] = .error .notCpuid ∧ decode [0x66, 0x0F, 0xA2] = .error (.otherPrefix 0x66) ∧
      decode [0x48, 0x0F, 0xA2] = .error (.otherPrefix 0x48) ∧ decode [0x0F] = .error .truncated ∧
      decode [0xF0, 0x0F] = .error .truncated := by decide
theorem test_table_words :
    decodeTableWord 16 0x0FA2 = some .cpuid ∧ decodeTableWord 16 0xA20F = some .cpuid ∧
      decodeTableWord 24 0xF00FA2 = some .lockCpuid ∧ decodeTableWord 24 0xA20FF0 = some .lockCpuid ∧
      decodeTableWord 16 0x0FA3 = none := by decide

/-! Every field table partitions its register. -/

theorem test_layouts_partition :
    [layout00, layout01, layout02, layout03, layout04, layout04Null, layout05, layout06, layout07s0, layout07s1,
     layout07s2, layout09, layout0A, layout0B 1, layout0B 2, layout0BExtra, layoutNoDomain, layout0Ds0, layout0Ds1,
     layout0DComponent, layout0Fs0, layout0Fs1, layout10s0, layout10s1, layout10s2, layout10s3, layout12s0, layout12s1,
     layout12Epc, layout12EpcNoProperty, layout14s0, layout14s1, layout15, layout16, layout17s0, layout17Brand,
     layout18s0, layout18, layout19, layout1A, layout1B, layout1C, layout1Ds0, layout1Ds1, layout1Es0, layout1F,
     layout20, layout23s0, layout23s1, layout23s2, layout23s3, layout24, layoutE0, layoutE1, layoutBrand, layoutE5,
     layoutE6, layoutE7, layoutE8].all Layout.partitions = true := by decide +kernel

/-! The configurations of spec/95_test_vectors.md, and one that supports every leaf. -/

/-- One row of a configuration table. -/
def row (leaf sub a b c d : Word32) : LeafEntry := { leaf := leaf, sub := sub, regs := { eax := a, ebx := b, ecx := c, edx := d } }

/-- TESTCFG-A. -/
def cfgA : Cfg :=
  { maxBasic := 2, maxExt := 0x80000004, pcWidth := 32, pentium4OrLater := true,
    supported := [0, 1, 2, 0x80000000, 0x80000001, 0x80000002, 0x80000003, 0x80000004],
    table :=
      [row 1 0 0x00000F0A 0x00000808 0 0x0FEBFBFF, row 2 0 0x665B5001 0 0 0x007A7000, row 0x80000000 0 0 0 0 0,
       row 0x80000001 0 0 0 0 0, row 0x80000002 0 0x20202020 0x20202020 0x20202020 0x6E492020,
       row 0x80000003 0 0x286C6574 0x50202952 0x69746E65 0x52286D75,
       row 0x80000004 0 0x20342029 0x20555043 0x30303531 0x007A484D] }

/-- TESTCFG-B, logical processor `lp`. -/
def cfgB (lp : BitVec 8) : Cfg :=
  { intel64 := true, microcodeFacility := true, microcodeSignature := 0x2A, maxBasic := 0xB, maxExt := 0x80000008,
    cacheCount := 1, lp := { initialApicId := lp, x2apicId := lp.setWidth 32 },
    supported := [0, 1, 2, 4, 0xB, 0x80000000, 0x80000001, 0x80000002, 0x80000003, 0x80000004, 0x80000005, 0x80000006,
                  0x80000007, 0x80000008],
    table :=
      [row 1 0 0x000306A9 0x00080800 1 0x1FEBFBFF, row 2 0 0x0000FF01 0 0 0, row 4 0 0x0C004121 0x01C0003F 0x3F 0,
       row 4 1 0 0 0 0, row 0xB 0 1 2 0 0, row 0xB 1 3 8 0 0, row 0xB 2 0 0 0 0, row 0xB 0x105 0 0 0 0,
       row 0x80000000 0 0 0 0 0, row 0x80000001 0 0 0 1 0x20100800,
       row 0x80000002 0 0x65746E49 0x2952286C 0x73655420 0x50432074,
       row 0x80000003 0 0x20422055 0x2E322040 0x48473030 0x0000007A, row 0x80000004 0 0 0 0 0,
       row 0x80000006 0 0 0 0x01006040 0, row 0x80000007 0 0 0 0 0x100, row 0x80000008 0 0x3027 0 0 0] }

/-- TESTCFG-C. -/
def cfgC : Cfg :=
  { intel64 := true, maxBasic := 0xD, maxExt := 0, supported := [0, 1, 2, 0xD], xsaveSizes := [(1, 0x240), (3, 0x240)],
    table :=
      [row 1 0 0x000306A9 0x00000800 0x14000001 0x0FEBFBFF, row 2 0 1 0 0 0, row 0xD 0 7 0 0x340 0, row 0xD 1 1 0 0 0,
       row 0xD 2 0x100 0x240 0 0] }

/-- Every basic leaf, with the illustrations V-F10 to V-F12 and two sub-leaves of each kind. -/
def cfgD : Cfg :=
  { intel64 := true, maxBasic := 0x24, maxExt := 0x80000008, upperDomains := 0b0100, pconfigCount := 1,
    supported := [1, 2, 3, 4, 5, 6, 7, 9, 0xA, 0xB, 0xD, 0xF, 0x10, 0x14, 0x15, 0x16, 0x17, 0x18, 0x19, 0x1A, 0x1B, 0x1C,
                  0x1D, 0x1E, 0x1F, 0x20, 0x23, 0x24, 0x80000001, 0x80000005],
    table :=
      [row 1 0 0x000306A9 0 0x04000000 0, row 2 0 1 0 0 0, row 7 0 1 4 8 0x40000, row 7 1 0x400100 8 0 0x80000,
       row 0xA 0 0x07300805 0 0 0x8604, row 0xB 0 0 2 0 0, row 0xD 0 7 0 0x340 0, row 0xD 1 8 0 0x100 0,
       row 0xD 8 0x80 0x77 0 0, row 0x12 2 0x70200001 0 0x05D80001 0, row 0x12 3 0 9 9 9,
       row 0x17 0 3 0 0 0, row 0x17 1 0x00A9C341 0 0 0, row 0x17 2 0 0 0 0, row 0x17 3 0 0 0 0,
       row 0x18 0 2 0 0 0x21, row 0x18 1 9 9 9 0, row 0x18 2 0 0x00040001 0x10 0x4022,
       row 0x1B 0 1 1 0 0, row 0x1F 0 0 2 0 0, row 0x1F 1 0 8 0 0, row 0x1F 2 0 16 0 0, row 0x1F 3 0 0 0 0,
       row 0x1F 7 0 0 0 0, row 0x23 0 1 0 0 0, row 0x23 1 0 0 0 0,
       row 0x80000001 0 0 0 0 0],
    compactSizes := [(0x101, 0x2C0)], lp := { x2apicId := 0x12 } }

/-- A state of the processor `c` with EAX = `eax` and ECX = `ecx`, and `CPUID` at the pc. -/
def on (c : Cfg) (eax ecx : Word32) : State :=
  { rax := eax.setWidth 64, rbx := 0, rcx := ecx.setWidth 64, rdx := 0, pc := 0x1000, rflags := 2, cpl := 3,
    mode64 := false, cr4Osxsave := false, cr4Pke := false, xcr0 := 0, xss := 0, miscEnable := 0, biosSignId := 0,
    dcaCap := 0, psnEnabled := false, aeskle := false, mem := [(0x1000, 0x0F), (0x1001, 0xA2)], storeBuffer := [],
    prefetched := [], freeIndex := 0, cfg := c }

/-- The values `CPUID` returns there. -/
def q (c : Cfg) (eax ecx : Word32) : Quad := (on c eax ecx).cpuidValues eax ecx

/-! Well-formedness: every instruction is well formed, the configurations above are admissible, and each check refuses an
ill-formed one. -/

theorem test_wellFormed : Instr.cpuid.wellFormed = true ∧ Instr.lockCpuid.wellFormed = true := by decide
theorem test_admissible :
    cfgA.admissible = true ∧ (cfgB 5).admissible = true ∧ cfgC.admissible = true ∧ cfgD.admissible = true := by
  decide +kernel
/-- Descriptor 99H is not in Table 3-21 (R160). -/
theorem test_bad_leaf02 :
    ({ maxBasic := 2, supported := [2], table := [row 2 0 0x00009901 0 0 0] } : Cfg).leaf02Defined = false := by
  decide +kernel
/-- A cache of type 0 (R200), and one of level 0 (R201). -/
theorem test_bad_caches :
    ({ maxBasic := 4, supported := [4], cacheCount := 1, table := [row 4 0 0x20 0 0 0] } : Cfg).cachesTyped = false ∧
      ({ maxBasic := 4, supported := [4], cacheCount := 1, table := [row 4 0 0x01 0 0 0] } : Cfg).cachesTyped = false := by
  decide +kernel
/-- A translation cache of level 0 (R347). -/
theorem test_bad_tlbs :
    ({ maxBasic := 0x18, supported := [0x18], table := [row 0x18 0 0 0 0 1] } : Cfg).tlbsLevelled = false := by decide +kernel
/-- EBX[15:0] = 0 in sub-leaf 0 of 0BH and of 1FH (R286, R381). -/
theorem test_bad_topology :
    ({ maxBasic := 0x1F, supported := [0xB], table := [row 0xB 0 0 0 0 0] } : Cfg).topologyReported = false ∧
      ({ maxBasic := 0x1F, supported := [0x1F], table := [row 0x1F 0 0 0 0 0] } : Cfg).topologyV2Reported = false := by
  decide +kernel
/-- Core again above Core, and a domain that comes twice (R280). -/
theorem test_bad_domains :
    ({ maxBasic := 0xB, supported := [0xB], extraDomains := 1,
       table := [row 0xB 0 0 2 0 0, row 0xB 2 0 8 0x200 0] } : Cfg).topologyReported = false ∧
      ({ maxBasic := 0xB, supported := [0xB], extraDomains := 2,
         table := [row 0xB 0 0 2 0 0, row 0xB 2 0 8 0x300 0, row 0xB 3 0 8 0x300 0] } : Cfg).topologyReported = false := by
  decide +kernel
/-- Bit 19 is Reserved in both vectors of leaf 0DH, and set in both (R296). -/
theorem test_bad_components :
    ({ maxBasic := 0xD, supported := [0xD], table := [row 0xD 0 0x80000 0 0 0, row 0xD 1 0 0 0x80000 0] } : Cfg).componentsDisjoint
      = false := by decide +kernel
/-- MaxSOCID_Index = 2 (R340). -/
theorem test_bad_soc :
    ({ maxBasic := 0x17, supported := [0x17], table := [row 0x17 0 2 0 0 0] } : Cfg).socBrandPresent = false := by
  decide +kernel
/-- A byte after the padding, and a UTF-8 sequence that the padding cuts off (R342). -/
theorem test_bad_soc_brand :
    ({ maxBasic := 0x17, supported := [0x17],
       table := [row 0x17 0 3 0 0 0, row 0x17 1 0x42004142 0 0 0, row 0x17 2 0 0 0 0, row 0x17 3 0 0 0 0] } : Cfg).socBrandPadded
      = false ∧
    ({ maxBasic := 0x17, supported := [0x17],
       table := [row 0x17 0 3 0 0 0, row 0x17 1 0x0000C341 0 0 0, row 0x17 2 0 0 0 0, row 0x17 3 0 0 0 0] } : Cfg).socBrandPadded
      = false := by decide +kernel
/-- UTF-8 sequences of two, three and four bytes, and bytes that are none: an overlong form, a surrogate, a value above
10FFFFH (log entry 43). -/
theorem test_utf8 :
    utf8Padded [0xC3, 0xA9, 0xE2, 0x82, 0xAC, 0xF0, 0x9F, 0x98, 0x80, 0] = true ∧ utf8Padded [0xC0, 0x80] = false ∧
      utf8Padded [0xED, 0xA0, 0x80] = false ∧ utf8Padded [0xF4, 0x90, 0x80, 0x80] = false ∧ utf8Padded [0x80] = false := by
  decide
/-- A PCONFIG sub-leaf of type 0 (R365). -/
theorem test_bad_pconfig :
    ({ maxBasic := 0x1B, supported := [0x1B], pconfigCount := 1, table := [row 0x1B 0 0 1 0 0] } : Cfg).pconfigTyped = false := by
  decide +kernel
/-- Hybrid, with a maximum below 1AH (R355). -/
theorem test_bad_announced :
    ({ maxBasic := 7, supported := [7], table := [row 7 0 0 0 0 0x8000, row 7 1 0 0 0 0] } : Cfg).announcedPresent = false := by
  decide +kernel
/-- 17 contiguous fixed-function counters, which counts only if the version ID is above 1 (R273). -/
theorem test_bad_fixed_counters :
    ({ maxBasic := 0xA, supported := [0xA], table := [row 0xA 0 2 0 0 17] } : Cfg).fixedCountersInRange = false ∧
      ({ maxBasic := 0xA, supported := [0xA], table := [row 0xA 0 1 0 0 17] } : Cfg).fixedCountersInRange = true := by
  decide +kernel
/-- A brand string without 00H (R426). -/
theorem test_bad_brand :
    ({ maxExt := 0x80000004, supported := [0x80000002, 0x80000003, 0x80000004],
       table := [row 0x80000002 0 0x20202020 0x20202020 0x20202020 0x20202020,
                 row 0x80000003 0 0x20202020 0x20202020 0x20202020 0x20202020,
                 row 0x80000004 0 0x20202020 0x20202020 0x20202020 0x20202020] } : Cfg).brandTerminated = false := by
  decide +kernel
/-- Family 0FH, model 03H, brand index 8 (R451). -/
theorem test_bad_brand_index :
    ({ maxBasic := 1, supported := [1], table := [row 1 0 0xF30 8 0 0] } : Cfg).brandIndexRetired = false := by decide +kernel

/-- Family 0FH on a processor before the Pentium 4 (R154). -/
theorem test_bad_serial_number :
    ({ maxBasic := 1, supported := [1], table := [row 1 0 0xF00 0 0 0] } : Cfg).serialNumberRetired = false := by decide +kernel
/-- EAX[31] = 1 in the highest basic leaf of a processor without extended functions, and in leaf 02H where the limit can
make it the highest (R421). -/
theorem test_bad_last_leaf :
    ({ maxBasic := 1, supported := [1], table := [row 1 0 0x80000000 0 0 0] } : Cfg).lastLeafBelowExtended = false ∧
      ({ maxBasic := 5, supported := [2], table := [row 2 0 0x80000001 0 0 0] } : Cfg).lastLeafBelowExtended = false := by
  decide +kernel

/-! Vectors of spec/95_test_vectors.md. -/

/-- V-A1 to V-A3, V-A4, V-A7, V-A9 to V-A11. -/
theorem test_vectors_A :
    q cfgA 0 0 = ⟨2, 0x756E6547, 0x6C65746E, 0x49656E69⟩ ∧ q cfgA 1 0 = ⟨0xF0A, 0x808, 0, 0x0FEBFBFF⟩ ∧
      q cfgA 2 0 = ⟨0x665B5001, 0, 0, 0x007A7000⟩ ∧ q cfgA 3 0 = ⟨0x665B5001, 0, 0, 0x007A7000⟩ ∧
      q cfgA 0x40000000 0 = ⟨0x665B5001, 0, 0, 0x007A7000⟩ ∧
      q cfgA 0x80000003 0 = ⟨0x286C6574, 0x50202952, 0x69746E65, 0x52286D75⟩ ∧
      q cfgA 0x80000005 0 = ⟨0x665B5001, 0, 0, 0x007A7000⟩ ∧ q cfgA 0xFFFFFFFF 0 = ⟨0x665B5001, 0, 0, 0x007A7000⟩ := by
  decide +kernel

/-- V-B1 to V-B4, V-B6, V-B7, V-B9, V-B11 to V-B13, V-B15, V-B16. -/
theorem test_vectors_B :
    q (cfgB 5) 0xB 0 = ⟨1, 2, 0x100, 5⟩ ∧ q (cfgB 5) 0xB 1 = ⟨3, 8, 0x201, 5⟩ ∧ q (cfgB 5) 0xB 2 = ⟨0, 0, 2, 5⟩ ∧
      q (cfgB 5) 0xB 0x105 = ⟨0, 0, 5, 5⟩ ∧ q (cfgB 7) 1 0 = ⟨0x306A9, 0x07080800, 1, 0x1FEBFBFF⟩ ∧
      q (cfgB 5) 0x8000000A 1 = ⟨3, 8, 0x201, 5⟩ ∧ q (cfgB 5) 0x21 0 = ⟨1, 2, 0x100, 5⟩ ∧
      q (cfgB 5) 4 0 = ⟨0x0C004121, 0x01C0003F, 0x3F, 0⟩ ∧ q (cfgB 5) 4 0xFFFFFFFF = ⟨0, 0, 0, 0⟩ ∧
      q (cfgB 5) 5 0 = ⟨0, 0, 0, 0⟩ ∧ q (cfgB 5) 8 0 = ⟨0, 0, 0, 0⟩ ∧ q (cfgB 5) 0x80000001 0 = ⟨0, 0, 1, 0x20100000⟩ ∧
      q (cfgB 5) 0x80000008 0 = ⟨0x3027, 0, 0, 0⟩ := by decide +kernel

/-- V-B14, V-B18, V-B19. -/
theorem test_vectors_B_inputs :
    State.cpuidValues { on (cfgB 5) 0 0 with mode64 := true } 0x80000001 0 = ⟨0, 0, 1, 0x20100800⟩ ∧
      State.cpuidValues { on (cfgB 5) 0 0 with miscEnable := 0x400000 } 0 0 = ⟨2, 0x756E6547, 0x6C65746E, 0x49656E69⟩ ∧
      State.cpuidValues { on (cfgB 5) 0 0 with miscEnable := 0x400000 } 0xB 1 = ⟨0xFF01, 0, 0, 0⟩ ∧
      State.cpuidValues { on (cfgB 5) 0 0 with miscEnable := 0x400000 } 0x80000008 0 = ⟨0x3027, 0, 0, 0⟩ := by
  decide +kernel

/-- V-C2 to V-C5, V-C7 to V-C9. -/
theorem test_vectors_C :
    State.cpuidValues { on cfgC 0 0 with cr4Osxsave := true } 1 0 = ⟨0x306A9, 0x800, 0x1C000001, 0x0FEBFBFF⟩ ∧
      State.cpuidValues { on cfgC 0 0 with xcr0 := 1 } 0xD 0 = ⟨7, 0x240, 0x340, 0⟩ ∧
      State.cpuidValues { on cfgC 0 0 with xcr0 := 7 } 0xD 0 = ⟨7, 0x340, 0x340, 0⟩ ∧ q cfgC 0xD 1 = ⟨1, 0, 0, 0⟩ ∧
      q cfgC 0xD 3 = ⟨0, 0, 0, 0⟩ ∧ q cfgC 0xD 0x102 = ⟨0, 0, 0, 0⟩ ∧
      State.cpuidValues { on cfgC 0 0 with xcr0 := 7 } 0x80000000 0 = ⟨7, 0x340, 0x340, 0⟩ ∧
      q cfgC 0x80000000 2 = ⟨0x100, 0x240, 0, 0⟩ := by decide +kernel

/-- V-F6, V-F9 to V-F12, V-F17 and the size of R295 for a state of the two registers together. -/
theorem test_vectors_D :
    q cfgD 0x12 2 = ⟨0x70200001, 0, 0x05D80001, 0⟩ ∧ q cfgD 0x12 3 = ⟨0, 0, 0, 0⟩ ∧
      q cfgD 0x18 2 = ⟨0, 0x00040001, 0x10, 0x4022⟩ ∧ q cfgD 0x18 1 = ⟨0, 0, 0, 0⟩ ∧ q cfgD 0x1D 0 = ⟨1, 0, 0, 0⟩ ∧
      q cfgD 0x1D 1 = ⟨0x04002000, 0x00080040, 0x10, 0⟩ ∧ q cfgD 0x1E 0 = ⟨0, 0x4010, 0, 0⟩ ∧
      q cfgD 0x1B 0 = ⟨1, 1, 0, 0⟩ ∧ q cfgD 0x1B 1 = ⟨0, 0, 0, 0⟩ ∧ q cfgD 0x1F 7 = ⟨0, 0, 7, 0x12⟩ ∧
      State.cpuidValues { on cfgD 0 0 with xcr0 := 1, xss := 0x100 } 0xD 1 = ⟨8, 0x2C0, 0x100, 0⟩ ∧
      q cfgD 0xD 8 = ⟨0x80, 0, 1, 0⟩ := by decide +kernel

/-- PSN is 1 only while supported and enabled, and never on the Pentium 4 or later (R154). -/
theorem test_psn :
    let c : Cfg := { maxBasic := 1, supported := [1], table := [row 1 0 0x673 0 0 0x40000] }
    (State.cpuidValues { on c 0 0 with psnEnabled := true } 1 0).edx = 0x40000 ∧ (q c 1 0).edx = 0 ∧
      (State.cpuidValues { on { c with pentium4OrLater := true } 0 0 with psnEnabled := true } 1 0).edx = 0 := by decide +kernel
/-- Without leaf 0DH no bit of XCR0 or IA32_XSS can be 1, whatever the constants (R29, R30). -/
theorem test_no_leaf0D :
    ({ cfgC with supported := [] } : Cfg).xcr0Mask = 0 ∧ ({ cfgD with supported := [] } : Cfg).xssMask = 0 ∧
      cfgC.xcr0Mask = 7 ∧ cfgD.xssMask = 0x100 := by decide +kernel

/-! One step of each instruction. -/

/-- P1 on TESTCFG-A: the step completes, the pc moves by 2, and EBX is "Genu" (V-A1). -/
theorem test_step_cpuid :
    ∃ t, step (on cfgA 0 0) = .next t ∧ t.pc = 0x1002 ∧ t.rbx = 0x756E6547 ∧ t.rflags = 2 :=
  ⟨_, rfl, by decide +kernel, by decide +kernel, rfl⟩
/-- V-B20: the upper halves take no part and are cleared. -/
theorem test_step_upper_halves :
    ∃ t, step { on (cfgB 5) 0 0 with rax := 0xFFFFFFFF00000000, rdx := 0xFFFFFFFFFFFFFFFF } = .next t ∧ t.rax = 0xB ∧
      t.rdx = 0x49656E69 := ⟨_, rfl, by decide +kernel, by decide +kernel⟩
/-- P3: the LOCK form faults with the pc at its first byte and nothing changed. -/
theorem test_step_lock :
    step { on (cfgB 5) 1 0 with mem := [(0x1000, 0xF0), (0x1001, 0x0F), (0x1002, 0xA2)] } =
      .fault (.ud { on (cfgB 5) 1 0 with mem := [(0x1000, 0xF0), (0x1001, 0x0F), (0x1002, 0xA2)] }) := rfl
/-- P6: a processor without the instruction. -/
theorem test_step_unsupported :
    step (on { cfgA with cpuidSupported := false } 0 0) = .fault (.ud (on { cfgA with cpuidSupported := false } 0 0)) := rfl
/-- `on` at another pc, with these bytes of memory alone. -/
def atPc (pc : Word64) (m : Mem) : State := { on cfgA 0 0 with pc := pc, mem := m }
/-- At the top of the address space: the advance to the last address completes, one beyond it is refused (U30), a fault
that does not advance is still the fault (R25), and bytes beyond it are not fetched. -/
theorem test_step_top :
    (∃ t, step (atPc 0xFFFFFFFD [(0xFFFFFFFD, 0x0F), (0xFFFFFFFE, 0xA2)]) = .next t ∧ t.pc = 0xFFFFFFFF) ∧
      step (atPc 0xFFFFFFFE [(0xFFFFFFFE, 0x0F), (0xFFFFFFFF, 0xA2)]) = .refused .pcOverflow ∧
      step (atPc 0xFFFFFFFD [(0xFFFFFFFD, 0xF0), (0xFFFFFFFE, 0x0F), (0xFFFFFFFF, 0xA2)]) =
        .fault (.ud (atPc 0xFFFFFFFD [(0xFFFFFFFD, 0xF0), (0xFFFFFFFE, 0x0F), (0xFFFFFFFF, 0xA2)])) ∧
      step (atPc 0xFFFFFFFF [(0, 0xA2), (0xFFFFFFFF, 0x0F)]) = .refused .pcOverflow :=
  ⟨⟨_, rfl, rfl⟩, rfl, rfl, rfl⟩
/-- Both rows run as the first instruction after reset, in both numberings. -/
theorem test_step_reset_cpuid :
    (∃ t, step (State.reset.withFetchWord 16 0x0FA2) = .next t) ∧ ∃ t, step (State.reset.withFetchWord 16 0xA20F) = .next t :=
  ⟨⟨_, rfl⟩, ⟨_, rfl⟩⟩
theorem test_step_reset_lock :
    step (State.reset.withFetchWord 24 0xF00FA2) = .fault (.ud (State.reset.withFetchWord 24 0xF00FA2)) := rfl

/-! Software procedures: S5, S6, S7, S9, S10, V-F4, V-F6, V-F7. -/

theorem test_display_family_model :
    displayFamily 0x000306A9 = 0x06 ∧ displayModel 0x000306A9 = 0x3A ∧ displayFamily 0x00100F42 = 0x10 ∧
      displayModel 0x00100F42 = 0x04 ∧ displayFamily 0x0FFF0FF0 = 0x10E ∧ displayModel 0x0FFF0FF0 = 0xFF ∧
      displayFamily 0x00030520 = 0x05 ∧ displayModel 0x00030520 = 0x02 ∧ steppingId 0x000306A9 = 9 := by decide
theorem test_leaf02_descriptors :
    leaf02Descriptors ⟨0x665B5001, 0, 0, 0x007A7000⟩ = [0x50, 0x5B, 0x66, 0x70, 0x7A] := by decide
theorem test_cache_size :
    cacheSizeBytes 0x01C0003F 0x3F = 32768 ∧ cacheSizeBytes 0x02C0003F 0x1FFF = 6291456 ∧
      cacheSizeBytes 0xFFFFFFFF 0xFFFFFFFF = 2 ^ 64 ∧ nearestPow2 6 = 8 ∧ nearestPow2 0 = 1 := by decide
theorem test_brand_string :
    brandString (q cfgA 0x80000002 0) (q cfgA 0x80000003 0) (q cfgA 0x80000004 0) =
      (List.replicate 14 0x20 ++ [0x49, 0x6E, 0x74, 0x65, 0x6C, 0x28, 0x52, 0x29, 0x20, 0x50, 0x65, 0x6E, 0x74, 0x69, 0x75,
        0x6D, 0x28, 0x52, 0x29, 0x20, 0x34, 0x20, 0x43, 0x50, 0x55, 0x20, 0x31, 0x35, 0x30, 0x30, 0x4D, 0x48, 0x7A]) := by
  decide +kernel
theorem test_brand_index :
    brandIndexString 0x0B 0xF13 = some "Intel(R) Xeon(R) processor MP" ∧
      brandIndexString 0x0B 0xF12 = some "Intel(R) Xeon(R) processor" ∧ brandIndexString 0x05 0 = none := by decide
theorem test_readings :
    eventSupported 0x07300805 0 6 = true ∧ eventSupported 0x07300805 0 7 = false ∧
      epcBase ⟨0x70200001, 0, 0x05D80001, 0⟩ = 0x70200000 ∧ epcSize ⟨0x70200001, 0, 0x05D80001, 0⟩ = 0x05D80000 ∧
      tscFrequency ⟨2, 0xB0, 0x016E3600, 0⟩ = some (24000000 * 176, 2) ∧ tscRatio ⟨2, 0xB0, 0, 0⟩ = some (176, 2) ∧
      tscFrequency ⟨2, 0xB0, 0, 0⟩ = none ∧ tscRatio ⟨2, 0, 5, 0⟩ = none ∧ lbrDepths 0xB = [8, 16, 32] := by decide
/-- The examples of R201, R218 and R347. -/
theorem test_cache_readings :
    cacheType 0x1C004121 = .data ∧ cacheLevel 0x1C004121 = 1 ∧ cacheSharingIds 0x1C004121 = 2 ∧
      packageCoreIds 0x1C004121 = 8 ∧ feedbackPages 0x00030003 = 1 ∧ feedbackBytes 0x00030F03 = 65536 ∧
      translationCacheType 0x00004022 = .instructionTlb ∧ translationCacheLevel 0x00004022 = 1 ∧
      tlbSharingIds 0x00004022 = 2 := by decide

/-! For each statement with hypotheses, a state that meets them, with one for each of its clauses at the ends of its
range. -/

/-- TESTCFG-B with IA32_MISC_ENABLE[22] = 1. -/
def limited (eax ecx : Word32) : State := { on (cfgB 5) eax ecx with miscEnable := 0x400000 }
/-- `cfgD` in 64-bit mode with XSAVE states, protection keys and Key Locker on. -/
def busy (eax ecx : Word32) : State :=
  { on cfgD eax ecx with mode64 := true, cr4Osxsave := true, cr4Pke := true, xcr0 := 7, xss := 0x100, aeskle := true }
/-- `on` with the bytes at the pc replaced. -/
def bytesAt (b c d : Byte) : State := { on cfgA 0 0 with mem := [(0x1000, b), (0x1001, c), (0x1002, d)] }
/-- `on` with these bytes of memory alone. -/
def memoryOf (m : Mem) : State := { on cfgA 0 0 with mem := m }

theorem witness_StepRunsInstructionAtPc :
    (∀ k b, (encode .cpuid)[k]? = some b →
      (on cfgA 0 0).pcFits k = true ∧ (on cfgA 0 0).fetchByte ((on cfgA 0 0).fetchAddress k) = some b) ∧
      decode (on cfgA 0 0).fetchWindow = .ok .cpuid ∧ (on cfgA 0 0).pcFits Instr.cpuid.ilen = true ∧
      decode (bytesAt 0xF0 0x0F 0xA2).fetchWindow = .ok .lockCpuid ∧
      exec .lockCpuid (bytesAt 0xF0 0x0F 0xA2) = .fault (.ud (bytesAt 0xF0 0x0F 0xA2)) ∧
      decode (atPc 0xFFFFFFFE [(0xFFFFFFFE, 0x0F), (0xFFFFFFFF, 0xA2)]).fetchWindow = .ok .cpuid ∧
      (atPc 0xFFFFFFFE [(0xFFFFFFFE, 0x0F), (0xFFFFFFFF, 0xA2)]).pcFits Instr.cpuid.ilen = false ∧
      exec .cpuid (atPc 0xFFFFFFFE [(0xFFFFFFFE, 0x0F), (0xFFFFFFFF, 0xA2)]) =
        .next (atPc 0xFFFFFFFE [(0xFFFFFFFE, 0x0F), (0xFFFFFFFF, 0xA2)]).completeCpuid := by
  refine ⟨fun k b h => ?_, by decide, by decide, by decide, rfl, by decide, by decide, rfl⟩
  match k with
  | 0 => cases h; decide
  | 1 => cases h; decide
  | n + 2 => cases h
theorem witness_OtherBytesAreRefused :
    (bytesAt 0x66 0x0F 0xA2).fetchWindow = [0x66, 0x0F, 0xA2] ∧ isOtherPrefix 0x66 = true ∧
      (bytesAt 0x0F 0xA3 0x00).fetchWindow = [0x0F, 0xA3, 0x00] ∧ (0x0F : Byte) ≠ lockByte ∧ isOtherPrefix 0x0F = false ∧
      ((0x0F : Byte), (0xA3 : Byte)) ≠ (0x0F, 0xA2) ∧
      (bytesAt 0xF0 0xF0 0xA2).fetchWindow = [0xF0, 0xF0, 0xA2] ∧ (0xF0 : Byte) = lockByte ∧
      ((0xF0 : Byte), (0xA2 : Byte)) ≠ (0x0F, 0xA2) ∧
      (memoryOf [(0x1000, 0x66)]).fetchWindow = [0x66] ∧
      (memoryOf [(0x1000, 0x0F), (0x1001, 0xA3)]).fetchWindow = [0x0F, 0xA3] ∧
      (memoryOf [(0x1000, 0x90)]).fetchWindow = [0x90] ∧ isOtherPrefix 0x90 = false ∧
      (memoryOf [(0x1000, 0xF0), (0x1001, 0xA2)]).fetchWindow = [0xF0, 0xA2] ∧ (memoryOf []).fetchWindow = [] ∧
      (memoryOf [(0x1000, 0x0F)]).fetchWindow = [0x0F] ∧ (memoryOf [(0x1000, 0xF0)]).fetchWindow = [0xF0] ∧
      (memoryOf [(0x1000, 0xF0), (0x1001, 0x0F)]).fetchWindow = [0xF0, 0x0F] ∧ (memoryOf []).pcFits 2 = true ∧
      (atPc 0xFFFFFFFF [(0xFFFFFFFF, 0x0F)]).fetchWindow = [0x0F] ∧ (atPc 0xFFFFFFFF []).pcFits 1 = false := by decide
theorem witness_EmptyMemoryStopsFetch : State.reset.pcLegal ∧ State.reset.fetchByte State.reset.pc.toNat = none :=
  ⟨show (0xFFFFFFF0 : Nat) < 2 ^ 32 by decide, rfl⟩
/-- For CpuidCompletes, FourRegistersWritten, FlagsUntouched, SignatureLoaded, CpuidSerializes: both values of each
configuration bit, the highest pc whose advance fits its width, and one whose advance does not. -/
theorem witness_supported :
    (on cfgA 0 0).cfg.cpuidSupported = true ∧ cfgA.microcodeFacility = false ∧ cfgA.intel64 = false ∧
      (on (cfgB 5) 0 0).cfg.cpuidSupported = true ∧ (cfgB 5).microcodeFacility = true ∧ (cfgB 5).intel64 = true ∧
      (atPc 0xFFFFFFFD []).pcFits 2 = true ∧ (atPc 0xFFFFFFFE []).pcFits 2 = false := by
  decide
theorem witness_unsupported :
    exec .cpuid (on { cfgA with cpuidSupported := false } 0 0) = .fault (.ud (on { cfgA with cpuidSupported := false } 0 0)) ∧
      (on { cfgA with cpuidSupported := false } 0 0).cfg.cpuidSupported = false := ⟨rfl, rfl⟩
theorem witness_StepFrame : step (on (cfgB 5) 1 0) = .next (on (cfgB 5) 1 0).completeCpuid := rfl
theorem witness_OutputDependsOnInputsOnly :
    (busy 4 1).SameInputs { busy 4 1 with rbx := 9, rdx := 8, rflags := 0x200002, cpl := 0, biosSignId := 7, pc := 5 } ∧
      (busy 4 1).usesSubleaf ((busy 4 1).select 4) = true ∧ (busy 5 1).SameInputs (busy 5 2) ∧
      (busy 5 1).usesSubleaf ((busy 5 1).select 5) = false :=
  ⟨⟨rfl, rfl, rfl, rfl, rfl, rfl, rfl, rfl, rfl, rfl⟩, by decide +kernel,
    ⟨rfl, rfl, rfl, rfl, rfl, rfl, rfl, rfl, rfl, rfl⟩, by decide +kernel⟩
theorem witness_RepeatReturnsSame : exec .cpuid (on cfgA 2 7) = .next (on cfgA 2 7).completeCpuid := rfl
theorem witness_SecondCpuidUsesOutputs :
    (on cfgA 0 0).cfg.cpuidSupported = true ∧ (on cfgA 0 0).leafOperand = 0 := by decide
/-- The maxima of TESTCFG-A are 2 and 80000004H. -/
theorem witness_LeafPartition :
    (on cfgA 2 0).leafOperand ≤ (on cfgA 2 0).effMaxBasic ∧
      (on cfgA 3 0).effMaxBasic < (on cfgA 3 0).leafOperand ∧ (on cfgA 3 0).leafOperand < 0x80000000#32 ∧
      (on cfgA 0x7FFFFFFF 0).effMaxBasic < (on cfgA 0x7FFFFFFF 0).leafOperand ∧
      (on cfgA 0x7FFFFFFF 0).leafOperand < 0x80000000#32 ∧
      0x80000000#32 ≤ (on cfgA 0x80000000 0).leafOperand ∧ (on cfgA 0x80000000 0).leafOperand ≤ cfgA.maxExt ∧
      (on cfgA 0x80000004 0).leafOperand ≤ cfgA.maxExt ∧ cfgA.maxExt < (on cfgA 0x80000005 0).leafOperand ∧
      cfgA.maxExt < (on cfgA 0xFFFFFFFF 0).leafOperand ∧ (cfgB 5).supports 5 = false := by decide +kernel
theorem witness_InvalidRangeFallsBack :
    0x40000000#32 ≤ (on (cfgB 5) 0x40000000 1).leafOperand ∧ (on (cfgB 5) 0x40000000 1).leafOperand ≤ 0x4FFFFFFF#32 ∧
      0x40000000#32 ≤ (on (cfgB 5) 0x4FFFFFFF 1).leafOperand ∧ (on (cfgB 5) 0x4FFFFFFF 1).leafOperand ≤ 0x4FFFFFFF#32 := by
  decide
theorem witness_OutOfRangeHonorsEcx :
    (on (cfgB 5) 0xC 1).cfg.cpuidSupported = true ∧
      (on (cfgB 5) 0xC 1).select (on (cfgB 5) 0xC 1).leafOperand ≠ (on (cfgB 5) 0xC 1).leafOperand := by decide +kernel
theorem witness_UnsupportedLeafReturnsZero :
    (on (cfgB 5) 5 0).Selects 5 ∧ (on (cfgB 5) 5 0).cfg.supports 5 = false ∧ (on cfgD 0x08 0).Selects 0x08 ∧
      (on cfgD 0x0C 0).Selects 0x0C ∧ (on cfgD 0x0E 0).Selects 0x0E ∧ (on cfgD 0x21 0).Selects 0x21 ∧
      (on { cfgD with supported := [] } 0x12 0).Selects 0x12 ∧ ({ cfgD with supported := [] } : Cfg).sgx = false := by
  decide +kernel
theorem witness_LimitHidesLeaves :
    (limited 0 0).cfg.limitRemovable = true ∧ (limited 0 0).miscEnable.getLsbD 22 = true ∧ (limited 0 0).leafOperand = 0 ∧
      3#32 ≤ (limited 3 0).leafOperand ∧ (limited 3 0).leafOperand < 0x80000000#32 ∧
      3#32 ≤ (limited 0x7FFFFFFF 0).leafOperand ∧ (limited 0x7FFFFFFF 0).leafOperand < 0x80000000#32 ∧
      0x80000000#32 ≤ (limited 0x80000000 0).leafOperand ∧ (limited 0x80000000 0).leafOperand ≤ (cfgB 5).maxExt ∧
      (limited 0x80000008 0).leafOperand ≤ (cfgB 5).maxExt := by decide +kernel
theorem witness_LimitBitHardwired :
    bit ((on cfgD 0 0).cfg.leaf7 1).ebx 3 = true ∧ bit ((on cfgA 0 0).cfg.leaf7 1).ebx 3 = false := by decide +kernel
theorem witness_LeafZeroVendorString :
    (on cfgA 0 0).Selects 0 ∧ (on cfgA 0 0).miscEnable.getLsbD 22 = false ∧ (limited 0 0).Selects 0 := by decide +kernel
/-- For OsxsaveMirrorsCr4 and LeafOneIdentity: also a legal state whose OSXSAVE bit reads 1. -/
theorem witness_leaf01 :
    (busy 1 0).Queries 1 ∧ (busy 1 0).controlLegal ∧ bit ((busy 1 0).cpuidValues 1 0).ecx 27 = true ∧
      (on (cfgB 5) 1 0).Queries 1 := by decide +kernel
theorem witness_LeafTwoDescriptors :
    (on cfgA 2 0).Queries 2 ∧ (on cfgA 2 0).cfg.admissible = true ∧ (on (cfgB 5) 2 0).Queries 2 := by decide +kernel
/-- TESTCFG-B describes one cache: the sub-leaves 0, 1, 2 and FFFFFFFFH fall under the three clauses. -/
theorem witness_LeafFourCaches :
    (on (cfgB 5) 4 0).Queries 4 ∧ (cfgB 5).admissible = true ∧
      (on (cfgB 5) 4 0).subleafOperand.toNat < (cfgB 5).cacheCount ∧
      (on (cfgB 5) 4 1).Queries 4 ∧ (on (cfgB 5) 4 1).subleafOperand.toNat = (cfgB 5).cacheCount ∧
      (on (cfgB 5) 4 2).Queries 4 ∧ (cfgB 5).cacheCount < (on (cfgB 5) 4 2).subleafOperand.toNat ∧
      (cfgB 5).cacheCount < (on (cfgB 5) 4 0xFFFFFFFF).subleafOperand.toNat := by decide +kernel
theorem witness_LeafSevenOspkeAndSubleaves :
    (busy 7 0).Queries 7 ∧ (busy 7 0).controlLegal ∧ bit ((busy 7 0).cpuidValues 7 0).ecx 4 = true ∧
      ((busy 7 0).cpuidValues 7 0).eax < 2#32 := by decide +kernel
theorem witness_LeafNineDcaCap : (busy 9 0).Queries 9 := by decide +kernel
/-- TESTCFG-B with a third domain in leaf 0BH. -/
def cfgB3 : Cfg := { cfgB 5 with extraDomains := 1, table := row 0xB 2 4 16 0x300 0 :: (cfgB 5).table }
/-- Two valid sub-leaves: 0, 1, 2 and FFFFFFFFH; and three: 2 with 1 beside it, and 3. -/
theorem witness_leaf0B :
    (on (cfgB 5) 0xB 0).Queries 0xB ∧ (on (cfgB 5) 0xB 0).subleafOperand = 0 ∧ (on (cfgB 5) 0xB 1).Queries 0xB ∧
      (on (cfgB 5) 0xB 1).subleafOperand = 1 ∧ (cfgB 5).admissible = true ∧
      (on (cfgB 5) 0xB 1).subleafOperand.toNat < 2 + (cfgB 5).extraDomains ∧
      2 + (cfgB 5).extraDomains ≤ (on (cfgB 5) 0xB 2).subleafOperand.toNat ∧
      2 + (cfgB 5).extraDomains ≤ (on (cfgB 5) 0xB 0xFFFFFFFF).subleafOperand.toNat ∧
      (on cfgB3 0xB 2).Queries 0xB ∧ cfgB3.admissible = true ∧ 2 ≤ (on cfgB3 0xB 2).subleafOperand.toNat ∧
      (on cfgB3 0xB 2).subleafOperand.toNat < 2 + cfgB3.extraDomains ∧ (1 : Word32) ≠ (on cfgB3 0xB 2).subleafOperand ∧
      2 + cfgB3.extraDomains ≤ (on cfgB3 0xB 3).subleafOperand.toNat := by decide +kernel
/-- `cfgD` enumerates one domain above the core, so T = 3: the sub-leaves 0, 1, 2 are valid, 3 is not. -/
theorem witness_LeafV2TopologySubleaves :
    (busy 0x1F 0).Queries 0x1F ∧ ([0, 1, 2, 3].map fun n => field ((busy 0x1F 0).cpuidValues 0x1F n).ecx 15 8) = [1, 2, 5, 0] := by
  decide +kernel
/-- For the three statements about leaf 0DH: sub-leaf 2 is valid through the first vector, 8 through the second, 9 is not
valid; EAX[3] and EAX[1] in each combination that has a clause; XCR0 with every supported bit and with none. -/
theorem witness_leaf0D :
    (busy 0xD 0).Queries 0xD ∧ (joinWords ((busy 0xD 0).cpuidValues 0xD 0).edx ((busy 0xD 0).cpuidValues 0xD 0).eax) = 7 ∧
      (joinWords ((busy 0xD 0).cpuidValues 0xD 1).edx ((busy 0xD 0).cpuidValues 0xD 1).ecx) = 0x100 ∧
      (busy 0xD 0).xcr0 = 7 ∧ (on cfgD 0xD 0).Queries 0xD ∧ bit ((busy 0xD 0).cpuidValues 0xD 1).eax 3 = true ∧
      (on cfgC 0xD 0).Queries 0xD ∧ bit ((on cfgC 0xD 0).cpuidValues 0xD 1).eax 3 = false ∧
      bit ((on cfgC 0xD 0).cpuidValues 0xD 1).eax 1 = false := by decide +kernel
/-- EAX[3] = 0 with EAX[1] = 1. -/
theorem witness_XsaveCompactSizeCases :
    let c : Cfg := { cfgC with table := [row 1 0 0 0 0 0, row 0xD 0 7 0 0x340 0, row 0xD 1 2 0 0 0] }
    (on c 0xD 1).Queries 0xD ∧ bit ((on c 0xD 1).cpuidValues 0xD 1).eax 3 = false ∧
      bit ((on c 0xD 1).cpuidValues 0xD 1).eax 1 = true := by decide +kernel
theorem witness_EpcSections :
    (busy 0x12 2).Queries 0x12 ∧ 2#32 ≤ (busy 0x12 2).subleafOperand ∧ field (q cfgD 0x12 2).eax 3 0 = 1 ∧
      field (q cfgD 0x12 2).ecx 3 0 = 1 ∧ (busy 0x12 3).Queries 0x12 ∧ field (q cfgD 0x12 3).eax 3 0 = 0 ∧
      field (q { cfgD with table := row 0x12 4 1 0 0 5 :: cfgD.table } 0x12 4).eax 3 0 = 1 ∧
      field (q { cfgD with table := row 0x12 4 1 0 0 5 :: cfgD.table } 0x12 4).ecx 3 0 = 0 := by decide +kernel
theorem witness_SocLeafAboveMaximum :
    (busy 0x17 0).Queries 0x17 ∧ 3#32 ≤ ((busy 0x17 0).cpuidValues 0x17 0).eax ∧
      ((busy 0x17 0).cpuidValues 0x17 0).eax < 4#32 := by
  decide +kernel
theorem witness_TlbLeafInvalidSubleaves :
    (busy 0x18 0).Queries 0x18 ∧ (q cfgD 0x18 0).eax < 3#32 ∧ field (q cfgD 0x18 1).edx 4 0 = 0 ∧ cfgD.admissible = true ∧
      field (q cfgD 0x18 2).edx 4 0 ≠ 0 := by decide +kernel
theorem witness_KeyLockerEnableBit : (busy 0x19 0).Queries 0x19 ∧ (on cfgD 0x19 0).Queries 0x19 := by decide +kernel
theorem witness_PconfigSubleaves :
    (busy 0x1B 0).Queries 0x1B ∧ cfgD.admissible = true ∧ (busy 0x1B 0).subleafOperand.toNat < cfgD.pconfigCount ∧
      (busy 0x1B 1).Queries 0x1B ∧ cfgD.pconfigCount ≤ (busy 0x1B 1).subleafOperand.toNat := by decide +kernel
theorem witness_TileAndTmulConstants :
    (busy 0x1D 0).Queries 0x1D ∧ (busy 0x1D 0).subleafOperand = 0 ∧ (busy 0x1D 1).Queries 0x1D ∧
      (busy 0x1D 1).subleafOperand = 1 ∧ (busy 0x1E 0).Queries 0x1E ∧ (busy 0x1E 0).subleafOperand = 0 := by decide +kernel
/-- EAX of sub-leaf 0 is 1: bit 1 is clear, and number 32 has no bit there. -/
theorem witness_PerfmonExtUnsupportedSubleaves :
    (busy 0x23 0).Queries 0x23 ∧ bit (q cfgD 0x23 0).eax 1 = false ∧ bit (q cfgD 0x23 0).eax 32 = false := by decide +kernel
theorem witness_ReservedZeroFields :
    (busy 5 0).Queries 5 ∧ (busy 6 0).Queries 6 ∧ (busy 0xA 0).Queries 0xA ∧ (busy 0x15 0).Queries 0x15 ∧
      (busy 0x15 0).subleafOperand = 0 ∧ (busy 0x16 0).Queries 0x16 ∧ (busy 0x17 0).Queries 0x17 ∧
      (busy 0x20 0).Queries 0x20 := by decide +kernel
/-- MaximumExtendedLeaf, at the smallest maximum too, and the statements about 80000001H, 5H, 6H, 7H, 8H. -/
theorem witness_extended :
    (on (cfgB 5) 0x80000000 0).leafOperand = 0x80000000 ∧ 0x80000000#32 ≤ (cfgB 5).maxExt ∧
      (cfgB 5).cpuidSupported = true ∧ 0x80000000#32 ≤ ({ cfgA with maxExt := 0x80000000 } : Cfg).maxExt ∧
      (busy 0x80000001 0).Queries 0x80000001 ∧ (busy 0x80000001 0).mode64 = true ∧
      (on (cfgB 5) 0x80000001 0).Queries 0x80000001 ∧ (on (cfgB 5) 0x80000001 0).mode64 = false ∧
      (on (cfgB 5) 0x80000005 0).Selects 0x80000005 ∧ (on (cfgB 5) 0x80000006 0).Queries 0x80000006 ∧
      (on (cfgB 5) 0x80000007 0).Queries 0x80000007 ∧ (on (cfgB 5) 0x80000008 0).Queries 0x80000008 := by decide +kernel
/-- TESTCFG-C has no extended functions. -/
theorem witness_NoExtendedFunctionsRecognised :
    (on cfgC 0x80000000 2).Legal ∧ (on cfgC 0x80000000 2).cfg.cpuidSupported = true ∧
      (on cfgC 0x80000000 2).leafOperand = 0x80000000 ∧ (on cfgC 0x80000000 2).cfg.maxExt < 0x80000000#32 :=
  ⟨⟨by decide, by decide +kernel, by decide +kernel, by decide +kernel, fun h => (by cases h), by decide +kernel,
    by decide +kernel, by decide, by decide +kernel⟩, rfl, by decide, by decide⟩
/-- A legal state of a processor with 32-bit registers, and its step. -/
theorem witness_StepKeepsLegal32 :
    (on cfgA 0 0).Legal ∧ step (on cfgA 0 0) = .next (on cfgA 0 0).completeCpuid :=
  ⟨⟨by decide, by decide +kernel, by decide +kernel, by decide +kernel, fun _ => ⟨fun r => (by cases r <;> decide), rfl⟩,
    by decide +kernel, by decide +kernel, by decide, by decide +kernel⟩, rfl⟩
/-- A legal state in 64-bit mode whose limit bit is hard-wired. -/
theorem witness_StepKeepsLegal64 : (busy 0xD 0).Legal ∧ step (busy 0xD 0) = .next (busy 0xD 0).completeCpuid :=
  ⟨⟨by decide, by decide +kernel, by decide +kernel, by decide +kernel, fun h => (by cases h), by decide +kernel,
    by decide +kernel, by decide, by decide +kernel⟩, rfl⟩
/-- DisplayModelConcatenates and DisplayFamilyRange: family 06H, 0FH and another. -/
theorem witness_signatures :
    (0x000306A9#32).extractLsb' 8 4 = 0x6#4 ∧ (0x0FFF0FF0#32).extractLsb' 8 4 = 0xF#4 ∧
      (0x00030520#32).extractLsb' 8 4 ≠ 0x6#4 ∧ (0x00030520#32).extractLsb' 8 4 ≠ 0xF#4 := by decide
theorem witness_NearestPowerOfTwo : 6 ≤ 2 ^ 3 := by decide

end Sys2Proof.Tests
end

section
/-! SUPPORT. For the statements about the instruction as a whole: which bits of a rendered register are constants and which
value read at execution each depends on, what the fetch and the decoder make of other bytes, which inputs an execution
keeps, and doubling. -/

namespace Sys2Proof.Proofs

open Sys2Proof.Machine Sys2Proof.Laws

/-! ### Rendered registers -/

/-- The bits of a field with this source are those of the processor's constant (R8, R14). -/
def constantSource : Source → Bool
  | .const | .reserved => true
  | .fixed _ | .live _ => false

theorem bitValue_constant {f : Field} (h : constantSource f.source = true) (raw : Word32) (env : DynField → Word32)
    (i : Nat) : f.bitValue raw env i = raw.getLsbD i := by
  unfold Field.bitValue
  cases hs : f.source with
  | const => rfl
  | reserved => rfl
  | fixed v => simp [hs, constantSource] at h
  | live d => simp [hs, constantSource] at h

/-- Of the values read at execution, a field depends only on the one it names. -/
theorem bitValue_congr_env {f : Field} {env env' : DynField → Word32} (h : ∀ d, f.source = .live d → env d = env' d)
    (raw : Word32) (i : Nat) : f.bitValue raw env i = f.bitValue raw env' i := by
  unfold Field.bitValue
  cases hs : f.source with
  | const => rfl
  | reserved => rfl
  | fixed v => rfl
  | live d => simp only [h d hs]

/-- A bit under constant fields alone is the bit of the processor's constant. -/
theorem bit_render_constant {fs : List Field} {i : Nat}
    (h : ∀ f ∈ fs, f.covers i = true → constantSource f.source = true) (raw : Word32) (env : DynField → Word32) :
    bit (renderReg fs raw env) i = bit raw i := by
  by_cases hi : i < 32
  · rw [bit_render fs raw env i hi, regBit]
    cases hf : fs.find? (fun f => f.covers i) with
    | none => rfl
    | some f =>
      have hc : constantSource f.source = true := h f (List.mem_of_find?_eq_some hf) (by simpa using List.find?_some hf)
      exact bitValue_constant hc raw env i
  · rw [bit_ge _ i (by omega), bit_ge _ i (by omega)]

/-- A register of constant fields is the processor's constant. -/
theorem render_constant {fs : List Field} (h : ∀ f ∈ fs, constantSource f.source = true) (raw : Word32)
    (env : DynField → Word32) : renderReg fs raw env = raw :=
  BitVec.eq_of_getLsbD_eq fun _ _ => bit_render_constant (fun f hf _ => h f hf) raw env

/-- A bit depends only on those values read at execution that a field covering it names. -/
theorem bit_render_congr_env {fs : List Field} {env env' : DynField → Word32} {i : Nat}
    (h : ∀ f ∈ fs, f.covers i = true → ∀ d, f.source = .live d → env d = env' d) (raw : Word32) :
    bit (renderReg fs raw env) i = bit (renderReg fs raw env') i := by
  by_cases hi : i < 32
  · rw [bit_render fs raw env i hi, bit_render fs raw env' i hi, regBit, regBit]
    cases hf : fs.find? (fun f => f.covers i) with
    | none => rfl
    | some f =>
      exact bitValue_congr_env (h f (List.mem_of_find?_eq_some hf) (by simpa using List.find?_some hf)) raw i
  · rw [bit_ge _ i (by omega), bit_ge _ i (by omega)]

/-- A register no field of which reads `d` does not depend on it. -/
theorem render_congr_except {fs : List Field} {env env' : DynField → Word32} {d : DynField}
    (henv : ∀ e, e ≠ d → env e = env' e) (h : ∀ f ∈ fs, f.source ≠ .live d) (raw : Word32) :
    renderReg fs raw env = renderReg fs raw env' :=
  BitVec.eq_of_getLsbD_eq fun _ _ =>
    bit_render_congr_env (fun f hf _ e he => henv e fun hed => h f hf (hed ▸ he)) raw

/-- Where bit `n` alone reads `d`, no other bit depends on it. -/
theorem bit_render_congr_except {fs : List Field} {env env' : DynField → Word32} {d : DynField} {n i : Nat}
    (henv : ∀ e, e ≠ d → env e = env' e) (h : ∀ f ∈ fs, f.source = .live d → f.lo = n ∧ f.hi = n) (hi : i ≠ n)
    (raw : Word32) : bit (renderReg fs raw env) i = bit (renderReg fs raw env') i := by
  refine bit_render_congr_env (fun f hf hc e he => henv e ?_) raw
  rintro rfl
  obtain ⟨hlo, hhi⟩ := h f hf he
  have := (covers_iff f i).1 hc
  omega

/-- A bit of a field that the table gives to it. -/
theorem bit_render_owned {fs : List Field} {f : Field} {i : Nat} (h : owns fs f = true) (hlo : f.lo ≤ i) (hhi : i ≤ f.hi)
    (raw : Word32) (env : DynField → Word32) : bit (renderReg fs raw env) i = f.bitValue raw env i := by
  simp only [owns, Bool.and_eq_true, Nat.ble_eq, List.all_eq_true, List.mem_range, Bool.or_eq_true, Bool.not_eq_true',
    decide_eq_true_eq] at h
  obtain ⟨⟨_, h31⟩, hall⟩ := h
  have hfind : fs.find? (fun g => g.covers i) = some f :=
    (hall i (by omega)).resolve_left (by simp [(covers_iff f i).2 ⟨hlo, hhi⟩])
  rw [bit_render fs raw env i (by omega), regBit, hfind]

/-- A one-bit field read at execution. -/
theorem bit_render_live {fs : List Field} {n : Nat} {name : String} {d : DynField}
    (h : owns fs (live n n name d) = true) (raw : Word32) (env : DynField → Word32) :
    bit (renderReg fs raw env) n = bit (env d) 0 := by
  rw [bit_render_owned h (Nat.le_refl n) (Nat.le_refl n)]
  simp [live, Field.bitValue, bit]

/-- A one-bit constant of the processor. -/
theorem bit_render_flag {fs : List Field} {n : Nat} {name : String} (h : owns fs (flag n name) = true) (raw : Word32)
    (env : DynField → Word32) : bit (renderReg fs raw env) n = bit raw n :=
  bit_render_owned h (Nat.le_refl n) (Nat.le_refl n) raw env

/-- A "Reserved = 0" field reads 0 (R14). -/
theorem field_render_zeros {fs : List Field} {hi lo : Nat} (h : owns fs (zeros hi lo) = true) (raw : Word32)
    (env : DynField → Word32) : field (renderReg fs raw env) hi lo = 0 := by
  have := field_render fs (zeros hi lo) raw env h
  simpa [zeros, fieldValue] using this

/-- A "Reserved = 0" bit reads 0 (R14). -/
theorem bit_render_zeros {fs : List Field} {n : Nat} (h : owns fs (zeros n n) = true) (raw : Word32)
    (env : DynField → Word32) : bit (renderReg fs raw env) n = false := by
  rw [bit_render_owned h (Nat.le_refl n) (Nat.le_refl n)]
  simp [zeros, Field.bitValue]

/-! ### Fetch, decode and step -/

/-- Bytes the fetch gets one by one begin what it gets together. -/
theorem fetchFrom_begins (s : State) (bytes : List Byte) {n k : Nat} (hn : bytes.length ≤ n)
    (h : ∀ j b, bytes[j]? = some b → s.pcFits (k + j) = true ∧ s.fetchByte (s.fetchAddress (k + j)) = some b) :
    ∃ rest, s.fetchFrom n k = bytes ++ rest := by
  induction bytes generalizing n k with
  | nil => exact ⟨_, rfl⟩
  | cons c cs ih =>
    cases n with
    | zero => simp at hn
    | succ n =>
      obtain ⟨hfit, hbyte⟩ := h 0 c rfl
      rw [Nat.add_zero] at hfit hbyte
      have htail : ∀ j b, cs[j]? = some b →
          s.pcFits (k + 1 + j) = true ∧ s.fetchByte (s.fetchAddress (k + 1 + j)) = some b := by
        intro j b hj
        rw [show k + 1 + j = k + (j + 1) by omega]
        exact h (j + 1) b (by simpa using hj)
      obtain ⟨rest, hrest⟩ := ih (by simpa using hn) htail
      exact ⟨rest, by simp [State.fetchFrom, hfit, hbyte, hrest]⟩

/-- An encoding is no longer than the fetch window (R51). -/
theorem length_encode_le (i : Instr) : (encode i).length ≤ 3 := by cases i <;> decide

theorem decode_encode_append (i : Instr) (rest : List Byte) : decode (encode i ++ rest) = .ok i := by
  cases i with
  | cpuid => exact RoundTrip.cpuid rest
  | lockCpuid => exact RoundTrip.lockCpuid rest

theorem refuseOverflow_overflow {s : State} {n : Nat} (h : s.pcFits n = false) (t : State) :
    s.refuseOverflow n (.next t) = .refused .pcOverflow := by
  simp [State.refuseOverflow, h]

theorem step_of_otherPrefix {s : State} {b : Byte} (h : decode s.fetchWindow = .error (.otherPrefix b)) :
    step s = .refused (.prefixNotInSource b) := by
  simp [step, h]

theorem step_of_notCpuid {s : State} (h : decode s.fetchWindow = .error .notCpuid) : step s = .refused .notCpuid := by
  simp [step, h]

/-- Where the bytes end inside what may be an instruction, the address of the first missing one decides. -/
theorem step_of_truncated {s : State} (h : decode s.fetchWindow = .error .truncated) :
    (s.pcFits s.fetchWindow.length = true → step s = .fault (.noInstructionByte (s.pc.toNat + s.fetchWindow.length))) ∧
      (s.pcFits s.fetchWindow.length = false → step s = .refused .pcOverflow) := by
  constructor <;> intro hfit <;> simp [step, h, State.fetchEnds, hfit, State.fetchAddress]

theorem lockByte_not_otherPrefix : isOtherPrefix lockByte = false := by decide

theorem decode_otherPrefix {b : Byte} (h : isOtherPrefix b = true) (rest : List Byte) :
    decode (b :: rest) = .error (.otherPrefix b) := by
  have hb : b ≠ lockByte := by
    rintro rfl
    simp [lockByte_not_otherPrefix] at h
  simp [decode, hb, h]

theorem decode_lock (rest : List Byte) : decode (lockByte :: rest) = decodeOpcode .lockCpuid rest := by simp [decode]

theorem decode_noPrefix {b : Byte} (hl : b ≠ lockByte) (hp : isOtherPrefix b = false) (rest : List Byte) :
    decode (b :: rest) = decodeOpcode .cpuid (b :: rest) := by
  simp [decode, hl, hp]

theorem decodeOpcode_other (i : Instr) {b c : Byte} (h : (b, c) ≠ (0x0F, 0xA2)) (rest : List Byte) :
    decodeOpcode i (b :: c :: rest) = .error .notCpuid := by
  rw [Ne, Prod.mk.injEq] at h
  exact if_neg h

theorem decodeOpcode_single_other (i : Instr) {b : Byte} (h : b ≠ 0x0F) : decodeOpcode i [b] = .error .notCpuid :=
  if_neg h

/-! ### One execution of CPUID -/

/-- The run-time inputs of R9 are as before after an execution (R24, R26). -/
theorem sameInputs_completeCpuid (s : State) : s.SameInputs s.completeCpuid := by constructor <;> simp

theorem sameInputs_writeReg32 (s : State) (r : Reg) (v : Word32) : s.SameInputs (s.writeReg32 r v) := by
  constructor <;> simp

theorem sameInputs_trans {s t u : State} (h : s.SameInputs t) (h' : t.SameInputs u) : s.SameInputs u :=
  ⟨h.cfg.trans h'.cfg, h.osxsave.trans h'.osxsave, h.pke.trans h'.pke, h.xcr0.trans h'.xcr0, h.xss.trans h'.xss,
    h.limit.trans h'.limit, h.dcaCap.trans h'.dcaCap, h.mode64.trans h'.mode64, h.aeskle.trans h'.aeskle,
    h.psnEnabled.trans h'.psnEnabled⟩

/-- A register read after a write gives the written value, or for another register what it held. -/
theorem reg32_writeReg32 (s : State) (r r' : Reg) (v : Word32) :
    (s.writeReg32 r v).reg32 r' = if r' = r then v else s.reg32 r' := by
  cases r <;> cases r' <;> simp [State.writeReg32, State.setReg, State.reg32, State.reg]

/-- An ECX that the selected leaf does not use takes no part (R111). -/
theorem cpuidValues_unused {s : State} {eax : Word32} (h : s.usesSubleaf (s.select eax) = false) (ecx ecx' : Word32) :
    s.cpuidValues eax ecx = s.cpuidValues eax ecx' := by
  simp [State.cpuidValues, State.subFor, h]

/-- On one processor, two states that compute the same values return the same. -/
theorem returns_congr {s s' : State} (hcfg : s.cfg = s'.cfg)
    (hv : s.cpuidValues s.leafOperand s.subleafOperand = s'.cpuidValues s'.leafOperand s'.subleafOperand) (q : Quad) :
    s.Returns q ↔ s'.Returns q := by
  rw [returns_iff, returns_iff, hcfg, hv]

/-- The upper half of a joined pair. -/
theorem joinWords_div (hi lo : Word32) : (joinWords hi lo).toNat / 2 ^ 32 = hi.toNat := by
  have := lo.isLt
  rw [joinWords_toNat]
  omega

/-! ### Doubling -/

/-- Doubling a power of 2 gives a power of 2. -/
theorem doubleUntil_eq_two_pow (n fuel j : Nat) : ∃ k, doubleUntil n fuel (2 ^ j) = 2 ^ k := by
  induction fuel generalizing j with
  | zero => exact ⟨j, rfl⟩
  | succ fuel ih =>
    simp only [doubleUntil]
    split
    · exact ⟨j, rfl⟩
    · rw [← Nat.pow_succ']; exact ih (j + 1)

/-- Enough doublings reach `n`. -/
theorem le_doubleUntil {n fuel p : Nat} (h : n ≤ 2 ^ fuel * p) : n ≤ doubleUntil n fuel p := by
  induction fuel generalizing p with
  | zero => simpa [doubleUntil] using h
  | succ fuel ih =>
    simp only [doubleUntil]
    split
    · assumption
    · exact ih (by rwa [← Nat.mul_assoc, ← Nat.pow_succ])

/-- Doubling from a power of 2 stops at the latest at any higher power that is at least `n`. -/
theorem doubleUntil_le {n fuel j k : Nat} (hjk : j ≤ k) (hn : n ≤ 2 ^ k) : doubleUntil n fuel (2 ^ j) ≤ 2 ^ k := by
  induction fuel generalizing j with
  | zero => exact Nat.pow_le_pow_right (by decide) hjk
  | succ fuel ih =>
    simp only [doubleUntil]
    split
    · exact Nat.pow_le_pow_right (by decide) hjk
    · next hlt =>
      have hne : j ≠ k := by rintro rfl; exact hlt hn
      rw [← Nat.pow_succ']
      exact ih (by omega)

end Sys2Proof.Proofs
end

section
/-! PROOFS. The statements about the instruction as a whole. -/

namespace Sys2Proof.Proofs

open Sys2Proof.Machine Sys2Proof.Laws

/-! ### Leaf 01H and CR4.OSXSAVE, leaf 80000001H and the mode -/

/-- Only the OSXSAVE field reads CR4.OSXSAVE (R9, R152). -/
theorem dynValue_cr4Osxsave (s : State) (v : Bool) (sub : Word32) (raw : Quad) (d : DynField) (h : d ≠ .osxsave) :
    State.dynValue { s with cr4Osxsave := v } sub raw d = s.dynValue sub raw d := by
  cases d with
  | osxsave => exact absurd rfl h
  | _ => rfl

/-- Only the SYSCALL/SYSRET field reads the mode (R9, R424). -/
theorem dynValue_mode64 (s : State) (m : Bool) (sub : Word32) (raw : Quad) (d : DynField) (h : d ≠ .syscall) :
    State.dynValue { s with mode64 := m } sub raw d = s.dynValue sub raw d := by
  cases d with
  | syscall => exact absurd rfl h
  | _ => rfl

theorem page01_osxsave (s : State) : bit (s.page 1 0 layout01).ecx 27 = s.cr4Osxsave :=
  (bit_render_live (name := "OSXSAVE") (d := .osxsave) (by decide) _ _).trans (wordOfBool_bit _)

theorem page01_xsave (s : State) : bit (s.page 1 0 layout01).ecx 26 = bit (s.cfg.raw 1 0).ecx 26 :=
  bit_render_flag (name := "XSAVE") (by decide) _ _

theorem returns_page01 {s : State} (h : s.Queries 0x01) : s.Returns (s.page 1 0 layout01) :=
  returns_page s 1 layout01 h fun _ => rfl

/-- Settles O27: the OSXSAVE field, bit 27 of ECX, is the only one of leaf 01H that reads CR4.OSXSAVE. -/
theorem osxsaveMirrorsCr4 : Obligations.OsxsaveMirrorsCr4 := by
  intro s h
  refine ⟨_, returns_page01 h, page01_osxsave s, ?_, fun v => ?_⟩
  · rintro ⟨hcontrol, -⟩ hbit
    rw [page01_xsave]
    exact hcontrol (page01_osxsave s ▸ hbit)
  · have henv := dynValue_cr4Osxsave s v 0 (s.cfg.raw 1 0)
    have h' : State.Queries { s with cr4Osxsave := v } 0x01 := h
    exact ⟨_, returns_page01 h', render_congr_except henv (by decide) _, render_congr_except henv (by decide) _,
      render_congr_except henv (by decide) _, page01_osxsave _,
      fun i hi => bit_render_congr_except henv (by decide) hi _⟩

theorem pageE1_syscall (s : State) :
    bit (s.page 0x80000001 0 layoutE1).edx 11 = (bit (s.cfg.raw 0x80000001 0).edx 11 && s.mode64) :=
  (bit_render_live (name := "SYSCALL/SYSRET") (d := .syscall) (by decide) _ _).trans (wordOfBool_bit _)

theorem pageE1_intel64 (s : State) : bit (s.page 0x80000001 0 layoutE1).edx 29 = s.cfg.intel64 :=
  (bit_render_live (name := "Intel 64 Architecture available") (d := .intel64) (by decide) _ _).trans (wordOfBool_bit _)

theorem returns_pageE1 {s : State} (h : s.Queries 0x80000001) : s.Returns (s.page 0x80000001 0 layoutE1) :=
  returns_page s 0x80000001 layoutE1 h fun _ => rfl

/-- Settles O49: the SYSCALL/SYSRET field, bit 11 of EDX, is the only one of leaf 80000001H that reads the mode. -/
theorem syscallFlagFollowsMode : Obligations.SyscallFlagFollowsMode := by
  intro s h
  refine ⟨_, returns_pageE1 h, fun hm => by rw [pageE1_syscall, hm, Bool.and_false],
    fun hm => by rw [pageE1_syscall, hm, Bool.and_true],
    pageE1_intel64 s, field_render_zeros (by decide) _ _, field_render_zeros (by decide) _ _,
    bit_render_zeros (by decide) _ _, field_render_zeros (by decide) _ _, fun m => ?_⟩
  have henv := dynValue_mode64 s m 0 (s.cfg.raw 0x80000001 0)
  have h' : State.Queries { s with mode64 := m } 0x80000001 := h
  exact ⟨_, returns_pageE1 h', render_congr_except henv (by decide) _, render_congr_except henv (by decide) _,
    render_congr_except henv (by decide) _, fun i hi => bit_render_congr_except henv (by decide) hi _⟩

/-! ### Leaves 09H and 19H -/

/-- Settles O32: EAX is one field read at execution, and the others are whole Reserved registers. -/
theorem leafNineDcaCap : Obligations.LeafNineDcaCap := by
  intro s h
  exact ⟨_, returns_page s 9 layout09 h fun _ => rfl, render_live _ .dcaCap _ _, render_wholeReserved _ _,
    render_wholeReserved _ _, render_wholeReserved _ _⟩

/-- Settles O42: AESKLE is the one field of leaf 19H that is not a constant of the processor. -/
theorem keyLockerEnableBit : Obligations.KeyLockerEnableBit := by
  intro s h
  have hconst : ∀ f ∈ layout19.ebx, f.hi = 0 ∨ constantSource f.source = true := by decide
  refine ⟨_, returns_page s 0x19 layout19 h fun _ => rfl, ?_, fun i hi => bit_render_constant (fun f hf hc => ?_) _ _,
    render_constant (by decide) _ _, render_constant (by decide) _ _, render_constant (by decide) _ _⟩
  · exact (bit_render_live (name := "AESKLE") (d := .aeskle) (by decide) _ _).trans (wordOfBool_bit _)
  · have := (covers_iff f i).1 hc
    exact (hconst f hf).resolve_left (by omega)

/-! ### Reserved = 0 -/

/-- A leaf that ECX selects a sub-leaf of, queried with ECX = 0. -/
theorem returns_page_of_sub_zero {s : State} {leaf : Word32} {l : Layout} (h : s.Queries leaf)
    (hu : (LeafId.ofWord leaf).usesSubleaf = true) (h0 : s.subleafOperand = 0)
    (hl : s.leafValues leaf 0 = s.page leaf 0 l) : s.Returns (s.page leaf 0 l) := by
  rw [← hl, ← h0]
  exact returns_of_queries_sub s leaf h hu

/-- The two hardware feedback bits are set together (R218). -/
theorem page06_hfiPair (s : State) : bit (s.page 6 0 layout06).edx 0 = bit (s.page 6 0 layout06).edx 1 := by
  have h0 : bit (s.page 6 0 layout06).edx 0 = bit (s.cfg.raw 6 0).edx 0 :=
    bit_render_flag (name := "Performance capability reporting") (by decide) _ _
  have h1 : bit (s.page 6 0 layout06).edx 1 = bit (s.cfg.raw 6 0).edx 0 :=
    bit_render_live (name := "Energy efficiency capability reporting") (d := .hfiPair) (by decide) _ _
  rw [h0, h1]

/-- Settles O46, leaf by leaf from its field tables. -/
theorem reservedZeroFields : Obligations.ReservedZeroFields := by
  refine ⟨fun s h => ?leaf05, fun s h => ?leaf06, fun s h => ?leaf0A, fun s h h0 => ?leaf15, fun s h => ?leaf16,
    fun s h h0 => ?leaf17, fun s h h0 => ?leaf20⟩
  case leaf05 =>
    exact ⟨_, returns_page s 5 layout05 h fun _ => rfl, field_render_zeros (by decide) _ _,
      field_render_zeros (by decide) _ _⟩
  case leaf06 =>
    exact ⟨_, returns_page s 6 layout06 h fun _ => rfl, field_render_zeros (by decide) _ _,
      field_render_zeros (by decide) _ _, field_render_zeros (by decide) _ _, page06_hfiPair s⟩
  case leaf0A =>
    exact ⟨_, returns_page s 0xA layout0A h fun _ => rfl, field_render_zeros (by decide) _ _,
      field_render_zeros (by decide) _ _, field_render_zeros (by decide) _ _⟩
  case leaf15 => exact ⟨_, returns_page_of_sub_zero (l := layout15) h rfl h0 rfl, render_wholeZero _ _⟩
  case leaf16 =>
    exact ⟨_, returns_page s 0x16 layout16 h fun _ => rfl, field_render_zeros (by decide) _ _,
      field_render_zeros (by decide) _ _, field_render_zeros (by decide) _ _⟩
  case leaf17 =>
    exact ⟨_, returns_page_of_sub_zero (l := layout17s0) h rfl h0 rfl, field_render_zeros (by decide) _ _⟩
  case leaf20 =>
    exact ⟨_, returns_page_of_sub_zero (l := layout20) h rfl h0 rfl, field_render_zeros (by decide) _ _⟩

/-! ### The instruction as a whole -/

/-- Settles O7, from what `completeCpuid` does to each part of the state. -/
theorem cpuidCompletes : Obligations.CpuidCompletes := by
  intro s hs
  refine ⟨_, exec_cpuid_next s hs, completeCpuid_rax s, completeCpuid_rbx s, completeCpuid_rcx s, completeCpuid_rdx s,
    fun hfit => ?pcFits, ?pcWidth, completeCpuid_rflags s, completeCpuid_cpl s, completeCpuid_mode64 s,
    completeCpuid_cr4Osxsave s, completeCpuid_cr4Pke s, completeCpuid_xcr0 s, completeCpuid_xss s,
    completeCpuid_miscEnable s, completeCpuid_dcaCap s, completeCpuid_psnEnabled s, completeCpuid_aeskle s,
    completeCpuid_cfg s, completeCpuid_storeBuffer s, completeCpuid_prefetched s, fun hm => ?signature,
    fun hm => ?untouched, readByte_completeCpuid s⟩
  case pcFits => rw [completeCpuid_pc, pcAfter_fits hfit]
  case pcWidth => rw [completeCpuid_pc]; exact pcAfter_lt s 2
  case signature => rw [completeCpuid_biosSignId, if_pos hm, joinWords_div]
  case untouched => simp [hm]

/-- Settles O16: the values are a function of the inputs of R9, EAX, and ECX where the leaf uses it. -/
theorem outputDependsOnInputsOnly : Obligations.OutputDependsOnInputsOnly := by
  intro s s' hin heax hecx
  refine returns_congr hin.cfg ?_
  calc s.cpuidValues s.leafOperand s.subleafOperand
      = s.cpuidValues s.leafOperand s'.subleafOperand := by
        cases hu : s.usesSubleaf (s.select s.leafOperand) with
        | true => rw [hecx hu]
        | false => exact cpuidValues_unused hu _ _
    _ = s'.cpuidValues s'.leafOperand s'.subleafOperand := by rw [heax, cpuidValues_congr hin]

/-- Settles O17: an execution keeps every input of R9, and EAX and ECX are loaded again. -/
theorem repeatReturnsSame : Obligations.RepeatReturnsSame := by
  intro s t ht
  obtain ⟨-, rfl⟩ := exec_cpuid_inv s t ht
  refine outputDependsOnInputsOnly _ _ ?inputs ?eax fun _ => ?ecx
  case inputs =>
    exact sameInputs_trans (sameInputs_completeCpuid s)
      (sameInputs_trans (sameInputs_writeReg32 _ _ _) (sameInputs_writeReg32 _ _ _))
  case eax => simp [State.leafOperand, reg32_writeReg32]
  case ecx => simp [State.subleafOperand, reg32_writeReg32]

/-! ### The step -/

/-- Settles O4: the fetch window begins with the encoding, and the step passes the execution on unless the pc overflows. -/
theorem stepRunsInstructionAtPc : Obligations.StepRunsInstructionAtPc := by
  refine ⟨fun s i hbytes => ?decodes, fun s i hd => ⟨fun hfit => ?runs, fun f hf => ?faults, fun hfit t ht => ?overflows⟩⟩
  case decodes =>
    obtain ⟨rest, hrest⟩ := fetchFrom_begins s (encode i) (k := 0) (length_encode_le i) (by simpa using hbytes)
    rw [State.fetchWindow, hrest, decode_encode_append]
  case runs => rw [step_of_decode hd, refuseOverflow_fits hfit]
  case faults => rw [step_of_decode hd, hf]; rfl
  case overflows => rw [step_of_decode hd, ht, refuseOverflow_overflow hfit]

/-- Settles O5: the decoder's answer for each kind of window, and the step's answer to it. -/
theorem otherBytesAreRefused : Obligations.OtherBytesAreRefused := by
  refine fun s => ⟨fun b rest hw hp => ?_, fun b c rest hw hl hp hne => ?_, fun b hw hl hp hne => ?_,
    fun c d rest hw hne => ?_, fun c hw hne => ?_, fun hw => ?_⟩
  · exact step_of_otherPrefix (by rw [hw, decode_otherPrefix hp])
  · exact step_of_notCpuid (by rw [hw, decode_noPrefix hl hp, decodeOpcode_other _ hne])
  · exact step_of_notCpuid (by rw [hw, decode_noPrefix hl hp, decodeOpcode_single_other _ hne])
  · exact step_of_notCpuid (by rw [hw, decode_lock, decodeOpcode_other _ hne])
  · exact step_of_notCpuid (by rw [hw, decode_lock, decodeOpcode_single_other _ hne])
  · refine step_of_truncated ?_
    obtain hw | hw | hw | hw := hw <;> rw [hw] <;> rfl

/-! ### The nearest power of 2 -/

/-- Settles O60, by three inductions on the number of doublings. -/
theorem nearestPowerOfTwo : Obligations.NearestPowerOfTwo := by
  refine fun n => ⟨doubleUntil_eq_two_pow n n 0, le_doubleUntil ?_, fun k hk => doubleUntil_le (Nat.zero_le k) hk⟩
  simpa using Nat.lt_two_pow_self.le

end Sys2Proof.Proofs
end

section
/-! SUPPORT. For the statements about the state: the upper half of a joined pair, the containers an execution leaves, the
relations of a legal state under an execution and after reset, and what reads IA32_MISC_ENABLE[22]. -/

namespace Sys2Proof.Proofs

open Sys2Proof.Machine Sys2Proof.Laws

/-! ### Registers -/

/-- Bits 63:32 of a joined pair are its high half. -/
theorem joinWords_upper (hi lo : Word32) : ((joinWords hi lo) >>> 32).setWidth 32 = hi := by
  apply BitVec.eq_of_toNat_eq
  rw [BitVec.toNat_setWidth, BitVec.toNat_ushiftRight, Nat.shiftRight_eq_div_pow, joinWords_div, Nat.mod_eq_of_lt hi.isLt]

/-- A zero-extended 32-bit value is below 2^32. -/
theorem setWidth64_lt (v : Word32) : (v.setWidth 64).toNat < 2 ^ 32 := by
  rw [BitVec.toNat_setWidth]
  exact lt_of_le_of_lt (Nat.mod_le _ _) v.isLt

/-- Every register an execution writes holds a 32-bit value (R106). -/
theorem reg_completeCpuid_lt (s : State) (r : Reg) : (s.completeCpuid.reg r).toNat < 2 ^ 32 := by
  cases r with
  | rax => rw [State.reg, completeCpuid_rax]; exact setWidth64_lt _
  | rbx => rw [State.reg, completeCpuid_rbx]; exact setWidth64_lt _
  | rcx => rw [State.reg, completeCpuid_rcx]; exact setWidth64_lt _
  | rdx => rw [State.reg, completeCpuid_rdx]; exact setWidth64_lt _

/-! ### Legal states -/

/-- The relations of a legal state between the inputs of R9 and the processor hold of any state with the same inputs and the
same IA32_PLATFORM_DCA_CAP. -/
theorem inputsLegal_congr {s t : State} (h : s.SameInputs t) (hdca : s.dcaCap = t.dcaCap) (hs : s.Legal) :
    t.cfg.admissible = true ∧ t.xcr0Legal ∧ t.xssLegal ∧ t.limitLegal ∧ t.controlLegal ∧ t.dcaLegal := by
  have heff : s.effMaxBasic = t.effMaxBasic := effMaxBasic_congr h
  refine ⟨h.cfg ▸ hs.processor, ?xcr0, ?xss, ?limit, ?control, ?dca⟩
  case xcr0 => rw [State.xcr0Legal, ← h.cfg, ← h.xcr0]; exact hs.xcr0
  case xss => rw [State.xssLegal, ← h.cfg, ← h.xss]; exact hs.xss
  case limit => rw [State.limitLegal, ← h.cfg, ← h.limit]; exact hs.limit
  case control => rw [State.controlLegal, ← h.cfg, ← h.osxsave, ← h.pke]; exact hs.control
  case dca => rw [State.dcaLegal, ← h.cfg, ← heff, ← hdca]; exact hs.dca

/-- An execution keeps a legal state legal, wherever it leaves the pc. -/
theorem legal_completeCpuid {s : State} (h : s.Legal) : s.completeCpuid.Legal := by
  obtain ⟨hproc, hxcr0, hxss, hlimit, hcontrol, hdca⟩ :=
    inputsLegal_congr (sameInputs_completeCpuid s) (completeCpuid_dcaCap s).symm h
  refine ⟨?memory, hproc, hxcr0, hxss, ?width, hlimit, hcontrol, ?pc, hdca⟩
  case memory => rw [completeCpuid_mem]; exact drain_wf _ _ h.memory
  case width =>
    intro hnot64
    rw [completeCpuid_cfg] at hnot64
    obtain ⟨-, hmode⟩ := h.width hnot64
    exact ⟨reg_completeCpuid_lt s, (completeCpuid_mode64 s).trans hmode⟩
  case pc => rw [State.pcLegal, completeCpuid_pc, completeCpuid_cfg]; exact pcAfter_lt s 2

/-- No relation between constants mentions the presence of the instruction or the width of the pc. -/
theorem admissible_presence_width (c : Cfg) (present : Bool) (width : Nat) :
    Cfg.admissible { c with cpuidSupported := present, pcWidth := width } = c.admissible := rfl

/-- What is masked has no bit outside the mask. -/
theorem and_mask_legal (v mask : Word64) : v &&& mask &&& ~~~mask = 0 := by
  rw [BitVec.and_assoc, BitVec.and_not_self]; exact BitVec.and_zero

/-! ### IA32_MISC_ENABLE[22] -/

/-- With the bit set where it can be set, the maximum is the smaller of the processor's and 2 (R103). -/
theorem effMaxBasic_limited {s : State} (hr : s.cfg.limitRemovable = true) (hb : s.miscEnable.getLsbD 22 = true) :
    s.effMaxBasic.toNat = min s.cfg.maxBasic.toNat 2 := by
  have hword : s.cfg.maxBasicWord.toNat = s.cfg.maxBasic.toNat := by
    rw [Cfg.maxBasicWord, BitVec.toNat_setWidth, Nat.mod_eq_of_lt (by have := s.cfg.maxBasic.isLt; omega)]
  rw [State.effMaxBasic, if_pos (by rw [State.maxLeafLimited, hr, hb]; rfl)]
  split
  · next hle =>
    have : s.cfg.maxBasicWord.toNat ≤ 2 := BitVec.le_def.1 hle
    rw [hword]
    omega
  · next hgt =>
    have : ¬ s.cfg.maxBasicWord.toNat ≤ 2 := fun hle => hgt (BitVec.le_def.2 hle)
    show 2 = min s.cfg.maxBasic.toNat 2
    omega

/-- With the bit clear, or where it cannot be set, the maximum is the processor's (R103). -/
theorem effMaxBasic_unlimited {s : State} (h : s.maxLeafLimited = false) : s.effMaxBasic = s.cfg.maxBasicWord := by
  rw [State.effMaxBasic, h, if_neg Bool.false_ne_true]

/-- Only the maximum basic leaf reads IA32_MISC_ENABLE (R9, R103). -/
theorem dynValue_miscEnable (s : State) (v : Word64) (sub : Word32) (raw : Quad) (d : DynField) (h : d ≠ .effMaxBasic) :
    State.dynValue { s with miscEnable := v } sub raw d = s.dynValue sub raw d := by
  cases d with
  | effMaxBasic => exact absurd rfl h
  | _ => rfl

/-- A page without the maximum basic leaf among its fields does not depend on IA32_MISC_ENABLE. -/
theorem page_miscEnable {l : Layout}
    (h : ∀ fs ∈ [l.eax, l.ebx, l.ecx, l.edx], ∀ f ∈ fs, f.source ≠ .live .effMaxBasic) (s : State) (v : Word64) (leaf sub : Word32) :
    State.page { s with miscEnable := v } leaf sub l = s.page leaf sub l := by
  have hreg : ∀ fs ∈ [l.eax, l.ebx, l.ecx, l.edx], ∀ raw,
      renderReg fs raw (State.dynValue { s with miscEnable := v } sub (s.cfg.raw leaf sub))
        = renderReg fs raw (s.dynValue sub (s.cfg.raw leaf sub)) :=
    fun fs hfs raw => render_congr_except (dynValue_miscEnable s v sub _) (h fs hfs) raw
  simp only [State.page, Layout.render]
  rw [hreg l.eax (by simp), hreg l.ebx (by simp), hreg l.ecx (by simp), hreg l.edx (by simp)]

/-- The names of the numbers from 80000000H on (R420 to R433). -/
def extendedIds : List LeafId := [.e0, .e1, .e2, .e3, .e4, .e5, .e6, .e7, .e8, .other]

theorem ofWord_extended {w : Word32} (h : 0x80000000#32 ≤ w) : LeafId.ofWord w ∈ extendedIds := by
  have htable : ∀ p ∈ leafNumbers, 0x80000000#32 ≤ p.1 → p.2 ∈ extendedIds := by decide
  by_cases ho : LeafId.ofWord w = .other
  · rw [ho]; decide
  · exact htable _ (ofWord_mem w _ rfl ho) h

/-- The data of an extended leaf does not depend on IA32_MISC_ENABLE. -/
theorem leafValues_extended_miscEnable {leaf : Word32} (h : 0x80000000#32 ≤ leaf) (s : State) (v : Word64) (n : Word32) :
    State.leafValues { s with miscEnable := v } leaf n = s.leafValues leaf n := by
  have hmem := ofWord_extended h
  unfold State.leafValues
  cases hid : LeafId.ofWord leaf with
  | e0 | e1 | e2 | e3 | e4 | e5 | e6 | e7 | e8 => exact page_miscEnable (by decide) s v _ _
  | other => rfl
  | _ => exact absurd (hid ▸ hmem) (by decide)

/-- With an extended leaf in EAX, `CPUID` returns the same whatever IA32_MISC_ENABLE holds. -/
theorem cpuidValues_extended_miscEnable {s : State} {leaf : Word32} (hlo : 0x80000000#32 ≤ leaf)
    (hhi : leaf ≤ s.cfg.maxExt) (v : Word64) (ecx : Word32) :
    State.cpuidValues { s with miscEnable := v } leaf ecx = s.cpuidValues leaf ecx := by
  simp only [State.cpuidValues, State.leafData, select_ext s leaf hlo hhi,
    select_ext { s with miscEnable := v } leaf hlo hhi, leafValues_extended_miscEnable hlo]
  rfl

/-- Leaf 00H returns the maximum basic leaf in EAX (R140). -/
theorem cpuidValues_zero_eax (s : State) (ecx : Word32) : (s.cpuidValues 0 ecx).eax = s.effMaxBasic := by
  have hsel : s.select 0 = 0 := select_le s 0 (BitVec.le_def.2 (Nat.zero_le _))
  rw [State.cpuidValues, hsel]
  exact render_live _ .effMaxBasic _ _

/-! ### Leaf 07H, sub-leaf 0 -/

theorem page07_max (s : State) : (s.page 7 0 layout07s0).eax = (s.cfg.raw 7 0).eax := render_wholeConst _ _ _

theorem page07_ospke (s : State) : bit (s.page 7 0 layout07s0).ecx 4 = s.cr4Pke :=
  (bit_render_live (name := "OSPKE") (d := .ospke) (by decide) _ _).trans (wordOfBool_bit _)

theorem page07_pku (s : State) : bit (s.page 7 0 layout07s0).ecx 3 = bit (s.cfg.raw 7 0).ecx 3 :=
  bit_render_flag (name := "PKU") (by decide) _ _

/-- Where leaf 07H is queried, the feature rules read the constants of its sub-leaf 0. -/
theorem leaf7_zero_of_queries {s : State} (h : s.Queries 7) : s.cfg.leaf7 0 = s.cfg.raw 7 0 := by
  rw [Cfg.leaf7, implements_of_queries s 7 h rfl, decide_eq_true (BitVec.le_def.2 (Nat.zero_le _))]; rfl

/-- A sub-leaf above the maximum of leaf 07H is zeros (R230). -/
theorem leaf07_above {s : State} {n : Word32} (h : (s.cfg.raw 7 0).eax < n) : s.leaf07 n = Quad.zero := by
  have hne : n ≠ 0 := by rintro rfl; exact absurd h (by simp)
  rw [State.leaf07, if_neg hne, if_pos h]

end Sys2Proof.Proofs
end

section
/-! PROOFS. The statements about the state: what a step keeps, the flags, the MSRs, reset, and the leaves that mirror
IA32_MISC_ENABLE[22] and CR4.PKE. -/

namespace Sys2Proof.Proofs

open Sys2Proof.Machine Sys2Proof.Laws

/-! ### What every step keeps -/

/-- Settles O53: a step that answers a next state is one execution, and an execution keeps every relation. -/
theorem stepKeepsLegal : Obligations.StepKeepsLegal := by
  intro s t hs ht
  obtain ⟨-, -, -, rfl⟩ := step_next_inv ht
  exact legal_completeCpuid hs

/-- Settles O11: a step that answers a next state is one execution, with the pc within its width. -/
theorem stepFrame : Obligations.StepFrame := by
  intro s t ht
  obtain ⟨-, -, hfit, rfl⟩ := step_next_inv ht
  have hpc : s.completeCpuid.pc.toNat = s.pc.toNat + 2 := by rw [completeCpuid_pc, pcAfter_fits hfit]
  exact ⟨hpc, completeCpuid_rflags s, completeCpuid_cpl s, completeCpuid_mode64 s, completeCpuid_cr4Osxsave s,
    completeCpuid_cr4Pke s, completeCpuid_xcr0 s, completeCpuid_xss s, completeCpuid_miscEnable s, completeCpuid_dcaCap s,
    completeCpuid_psnEnabled s, completeCpuid_aeskle s, completeCpuid_cfg s, readByte_completeCpuid s⟩

/-! ### What one execution writes -/

/-- Settles O13: the flags are no input of R9, so the values are the same with any others. -/
theorem flagsUntouched : Obligations.FlagsUntouched := by
  intro s hs
  refine ⟨_, exec_cpuid_next s hs, completeCpuid_rflags s, ?idFlag, fun v => ?returns⟩
  case idFlag => rw [State.idFlag, completeCpuid_rflags, State.idFlag]
  case returns =>
    have hin : State.SameInputs { s with rflags := v } s := ⟨rfl, rfl, rfl, rfl, rfl, rfl, rfl, rfl, rfl, rfl⟩
    exact outputDependsOnInputsOnly _ _ hin rfl fun _ => rfl

/-- Settles O14: with the facility the MSR is the signature joined to a free low half. -/
theorem signatureLoaded : Obligations.SignatureLoaded := by
  intro s hs
  refine ⟨_, exec_cpuid_next s hs, fun hm => ?loaded, fun hm => ?untouched⟩
  case loaded => rw [completeCpuid_biosSignId, if_pos hm, joinWords_upper]
  case untouched => rw [completeCpuid_biosSignId, hm, if_neg Bool.false_ne_true]

/-- Settles O12: the containers hold the zero-extended values on both kinds of processor. -/
theorem fourRegistersWritten : Obligations.FourRegistersWritten := by
  intro s hs
  refine ⟨_, exec_cpuid_next s hs, fun _ => ?full, fun _ => ?low⟩
  case full => exact ⟨completeCpuid_rax s, completeCpuid_rbx s, completeCpuid_rcx s, completeCpuid_rdx s⟩
  case low => simp only [State.reg32, State.reg, completeCpuid_rax, completeCpuid_rbx, completeCpuid_rcx,
      completeCpuid_rdx, setWidth_up_down, and_self]

/-! ### The ID flag and a processor without the instruction -/

/-- Settles O56: with the instruction the flag is stored as written, and without it no write can give both values. -/
theorem idFlagTogglesIffSupported : Obligations.IdFlagTogglesIffSupported := by
  intro s
  simp only [writeRflags_idFlag]
  cases s.cfg.cpuidSupported with
  | true => exact ⟨fun _ => ⟨⟨0x200000#64, rfl⟩, ⟨0, rfl⟩⟩, fun _ => rfl⟩
  | false =>
    refine ⟨fun h => absurd h Bool.false_ne_true, ?_⟩
    rintro ⟨⟨_, hset⟩, _, hclear⟩
    exact absurd (hset.symm.trans hclear) (by decide)

/-- Settles O9: `CPUID` raises `#UD` there, and a write of EFLAGS keeps the ID flag. -/
theorem unsupportedProcessorFaults : Obligations.UnsupportedProcessorFaults := by
  intro s hs
  have hexec : exec .cpuid s = .fault (.ud s) := by simp [exec, execCpuid, hs]
  exact ⟨⟨s, hexec⟩, fun v => by rw [writeRflags_idFlag, hs, if_neg Bool.false_ne_true]⟩

/-! ### IA32_MISC_ENABLE[22] -/

/-- Settles O24: the limited maximum, leaf 00H that reports it, the leaf it selects, and the extended leaves, none of which
reads it. -/
theorem limitHidesLeaves : Obligations.LimitHidesLeaves := by
  intro s hs hr hb
  have hmax : s.effMaxBasic.toNat = min s.cfg.maxBasic.toNat 2 := effMaxBasic_limited hr hb
  refine ⟨hmax, fun h0 => ?zero, fun hlo hhi => ?hidden, fun hlo hhi => ?extended⟩
  case zero =>
    refine ⟨_, returns_cpuidValues s hs, ?_⟩
    rw [h0, cpuidValues_zero_eax]
  case hidden =>
    have habove : s.effMaxBasic < s.leafOperand := by
      have : 3 ≤ s.leafOperand.toNat := BitVec.le_def.1 hlo
      exact BitVec.lt_def.2 (by omega)
    exact returns_leafData s _ ⟨hs, select_out s _ habove (.inl hhi)⟩
  case extended =>
    refine ⟨_, returns_cpuidValues s hs, (returns_iff _ _).2 ⟨hs, ?_⟩⟩
    exact (cpuidValues_extended_miscEnable hlo hhi _ _).symm

/-- Settles O25: whether bit 22 can be set is the inverse of the flag. -/
theorem limitBitHardwired : Obligations.LimitBitHardwired := by
  refine fun s v => ⟨fun hflag => ?hardwired, fun hflag => ?stored⟩
  case hardwired =>
    have hr : s.cfg.limitRemovable = false := by rw [Cfg.limitRemovable, hflag]; rfl
    have hbit : (s.writeMiscEnable v).miscEnable.getLsbD 22 = false := by
      rw [writeMiscEnable_limit, hr, Bool.and_false]
    have hmax : (s.writeMiscEnable v).effMaxBasic = (s.writeMiscEnable v).cfg.maxBasicWord :=
      effMaxBasic_unlimited (by rw [State.maxLeafLimited, hbit, Bool.false_and])
    exact ⟨hbit, by rw [hmax, writeMiscEnable_cfg]⟩
  case stored =>
    have hr : s.cfg.limitRemovable = true := by rw [Cfg.limitRemovable, hflag]; rfl
    rw [writeMiscEnable_limit, hr, Bool.and_true]

/-! ### Leaf 07H and CR4.PKE -/

/-- Settles O31: OSPKE is read at execution, PKU and the maximum sub-leaf are constants. -/
theorem leafSevenOspkeAndSubleaves : Obligations.LeafSevenOspkeAndSubleaves := by
  intro s h
  refine ⟨_, returns_withSub s 7 0 h rfl, page07_ospke s, ?_, fun n hn => ?_⟩
  · rintro ⟨-, hcontrol⟩ hbit
    have hpku : bit (s.cfg.leaf7 0).ecx 3 = true := hcontrol ((page07_ospke s).symm.trans hbit)
    rw [leaf7_zero_of_queries h] at hpku
    exact (page07_pku s).trans hpku
  · have hzero : s.leafValues 7 n = Quad.zero := leaf07_above (page07_max s ▸ hn)
    exact hzero ▸ returns_withSub s 7 n h rfl

/-! ### Reset -/

/-- Settles O54: the processor is admissible by construction, XCR0 is masked, RDX holds a 32-bit signature, and the other
inputs are 0. -/
theorem resetIsLegal : Obligations.ResetIsLegal := by
  refine ⟨reset_mem_wf, ?processor, ?xcr0, ?xss, ?width, ?limit, ?control, ?pc, ?dca⟩
  case processor => exact (admissible_presence_width _ true 32).trans Config.processor.ok
  case xcr0 => exact and_mask_legal 1 _
  case xss => exact BitVec.zero_and
  case width =>
    refine fun _ => ⟨fun r => ?_, rfl⟩
    cases r with
    | rdx => exact setWidth64_lt _
    | rax | rbx | rcx => decide
  case limit => exact fun _ => rfl
  case control => exact ⟨fun h => absurd h Bool.false_ne_true, fun h => absurd h Bool.false_ne_true⟩
  case pc => decide
  case dca => exact fun _ _ => rfl

/-- Settles O55: IA32_MISC_ENABLE is 0 after reset. -/
theorem resetLimitIsOff : Obligations.ResetLimitIsOff := by
  have hbit : State.reset.miscEnable.getLsbD 22 = false := rfl
  exact ⟨hbit, effMaxBasic_unlimited (by rw [State.maxLeafLimited, hbit, Bool.false_and])⟩

end Sys2Proof.Proofs
end

section
/-! SUPPORT. For the statements about memory: the bytes memory itself holds after an execution, the fetch where the first
byte is missing, and the values of leaf 00H that a second `CPUID` starts from. -/

namespace Sys2Proof.Proofs

open Sys2Proof.Machine Sys2Proof.Laws

/-! ### Memory and the fetch -/

/-- With no store pending, the byte of program order is the one memory holds. -/
theorem readByte_of_no_pending {s : State} (h : s.storeBuffer = []) (a : Nat) : s.readByte a = s.mem.read a := by
  rw [State.readByte, h]; rfl

/-- An execution leaves every byte of program order in memory itself (R55). -/
theorem mem_read_completeCpuid (s : State) (a : Nat) : s.completeCpuid.mem.read a = s.readByte a := by
  rw [← readByte_of_no_pending (completeCpuid_storeBuffer s), readByte_completeCpuid]

/-- A legal pc addresses a byte within its width, also where the width is above 64 bits. -/
theorem pcFits_zero {s : State} (h : s.pcLegal) : s.pcFits 0 = true := by
  refine decide_eq_true ?_
  obtain hmin | hmin := min_choice s.cfg.pcWidth 64
  · rw [hmin]; exact h
  · rw [hmin]; exact s.pc.isLt

/-- The fetch gets nothing where its first address has no byte (R51). -/
theorem fetchWindow_of_no_byte {s : State} (h : s.fetchByte s.pc.toNat = none) : s.fetchWindow = [] := by
  have h0 : s.fetchByte (s.fetchAddress 0) = none := h
  rw [State.fetchWindow, State.fetchFrom, h0, ite_self]

/-! ### Leaf 00H and the leaf after it -/

/-- EAX = 0 selects leaf 00H, which every processor supports, whatever ECX holds (R101, R140). -/
theorem cpuidValues_zero (s : State) (ecx : Word32) : s.cpuidValues 0 ecx = s.page 0 0 layout00 := by
  have hsel : s.select 0 = 0 := select_le s 0 (BitVec.le_def.2 (Nat.zero_le _))
  rw [State.cpuidValues, hsel]
  rfl

/-- Leaf 00H returns the last four characters of the vendor string in ECX (R140). -/
theorem cpuidValues_zero_ecx (s : State) (ecx : Word32) : (s.cpuidValues 0 ecx).ecx = 0x6C65746E := by
  rw [cpuidValues_zero]
  exact render_fixd _ _ _ _

/-- The maximum basic leaf selects itself (R101). -/
theorem cpuidValues_effMaxBasic (s : State) (ecx : Word32) :
    s.cpuidValues s.effMaxBasic ecx = s.leafData s.effMaxBasic (s.subFor s.effMaxBasic ecx) := by
  rw [State.cpuidValues, select_le s _ (BitVec.le_refl _)]

/-- A second `CPUID` returns what the processor answers to EAX and ECX of the first (R54, R113). -/
theorem returns_second (s : State) (hs : s.cfg.cpuidSupported = true) :
    s.completeCpuid.Returns (s.cpuidValues (s.cpuidValues s.leafOperand s.subleafOperand).eax
      (s.cpuidValues s.leafOperand s.subleafOperand).ecx) := by
  rw [returns_iff, completeCpuid_cfg, completeCpuid_leafOperand, completeCpuid_subleafOperand]
  exact ⟨hs, cpuidValues_congr (sameInputs_completeCpuid s) _ _⟩

end Sys2Proof.Proofs
end

section
/-! PROOFS. The statements about memory: what an execution leaves in it, a second `CPUID`, and the fetch without a byte. -/

namespace Sys2Proof.Proofs

open Sys2Proof.Machine Sys2Proof.Laws

/-- Settles O15: both buffers are empty, so memory and the fetch have only the bytes of program order left. -/
theorem cpuidSerializes : Obligations.CpuidSerializes := by
  intro s hs
  exact ⟨_, exec_cpuid_next s hs, completeCpuid_storeBuffer s, completeCpuid_prefetched s,
    fun a => ⟨mem_read_completeCpuid s a, fetchByte_completeCpuid s a⟩⟩

/-- Settles O18: the first execution leaves the maximum basic leaf in EAX and a part of the vendor string in ECX, and keeps
every input of R9. -/
theorem secondCpuidUsesOutputs : Obligations.SecondCpuidUsesOutputs := by
  intro s hs h0
  have heax : (s.cpuidValues s.leafOperand s.subleafOperand).eax = s.effMaxBasic := by rw [h0, cpuidValues_zero_eax]
  have hecx : (s.cpuidValues s.leafOperand s.subleafOperand).ecx = 0x6C65746E := by rw [h0, cpuidValues_zero_ecx]
  refine ⟨_, exec_cpuid_next s hs, ?leaf, ?subleaf, ?returns⟩
  case leaf => rw [completeCpuid_leafOperand, heax]
  case subleaf => rw [completeCpuid_subleafOperand, hecx]
  case returns =>
    have hsecond := returns_second s hs
    rwa [heax, hecx, cpuidValues_effMaxBasic] at hsecond

/-- Settles O6: the fetch window is empty, and the address of its first missing byte is the pc. -/
theorem emptyMemoryStopsFetch : Obligations.EmptyMemoryStopsFetch := by
  intro s hpc hbyte
  have hw : s.fetchWindow = [] := fetchWindow_of_no_byte hbyte
  obtain ⟨hfault, -⟩ := step_of_truncated (s := s) (by rw [hw]; rfl)
  rw [hw] at hfault
  exact hfault (pcFits_zero hpc)

end Sys2Proof.Proofs
end

section
/-! SUPPORT. For the statements about the encoding: which bytes the decoder reads as an instruction, the 16-bit numbers of
two bytes, and how a word of the opcode table is laid out. -/

namespace Sys2Proof.Proofs

open Sys2Proof.Machine Sys2Proof.Laws

/-! ### What decodes -/

/-- The opcode bytes are read only as the two fixed bytes, and answer what was asked for (R70). -/
theorem decodeOpcode_ok_inv {i j : Instr} {bs : List Byte} (h : decodeOpcode i bs = .ok j) :
    j = i ∧ ∃ rest, bs = escapeByte :: opcodeByte :: rest := by
  match bs with
  | [] => cases h
  | [b] => simp only [decodeOpcode] at h; split at h <;> cases h
  | b :: c :: rest =>
    simp only [decodeOpcode] at h
    split at h
    · rename_i hbytes
      obtain ⟨rfl, rfl⟩ := hbytes
      cases h
      exact ⟨rfl, rest, rfl⟩
    · cases h

/-- Bytes that decode begin with the encoding of what they decode to: the opcode bytes are read after the LOCK byte or as
the first bytes, and nowhere else (R70, R74, R79). -/
theorem decode_ok_inv {bs : List Byte} {i : Instr} (h : decode bs = .ok i) : ∃ rest, bs = encode i ++ rest := by
  match bs with
  | [] => cases h
  | b :: bs =>
    by_cases hl : b = lockByte
    · rw [hl, decode_lock] at h
      obtain ⟨rfl, rest, rfl⟩ := decodeOpcode_ok_inv h
      exact ⟨rest, by rw [hl]; rfl⟩
    · cases hp : isOtherPrefix b with
      | true => rw [decode_otherPrefix hp] at h; cases h
      | false =>
        rw [decode_noPrefix hl hp] at h
        obtain ⟨rfl, rest, hbytes⟩ := decodeOpcode_ok_inv h
        exact ⟨rest, hbytes⟩

/-- The decoder answers an instruction exactly on the bytes that begin with its encoding. -/
theorem decode_ok_iff {bs : List Byte} {i : Instr} : decode bs = .ok i ↔ ∃ rest, bs = encode i ++ rest := by
  constructor
  · exact decode_ok_inv
  · rintro ⟨rest, rfl⟩
    exact decode_encode_append i rest

/-- Two bytes and what follows are `CPUID` exactly if they are the two opcode bytes (R70). -/
theorem decode_cpuid_iff (b c : Byte) (rest : List Byte) :
    decode (b :: c :: rest) = .ok .cpuid ↔ b = escapeByte ∧ c = opcodeByte := by
  rw [decode_ok_iff]
  simp [encode]

/-! ### The number of two bytes -/

/-- A 16-bit number determines its two bytes. -/
theorem byte_append_inj {b c b' c' : Byte} : b ++ c = b' ++ c' ↔ b = b' ∧ c = c' := by
  constructor
  · intro h
    have hhigh := congrArg (BitVec.extractLsb' 8 8) h
    have hlow := congrArg (BitVec.extractLsb' 0 8) h
    rw [BitVec.extractLsb'_append_eq_left, BitVec.extractLsb'_append_eq_left] at hhigh
    rw [BitVec.extractLsb'_append_eq_right, BitVec.extractLsb'_append_eq_right] at hlow
    exact ⟨hhigh, hlow⟩
  · rintro ⟨rfl, rfl⟩
    rfl

/-! ### The words of the opcode table -/

/-- A word whose bytes begin with an encoding in fetch order is that instruction (log entry 31). -/
theorem decodeTableWord_of_fetchOrder {nbits w : Nat} {i : Instr} (rest : List Byte)
    (h : bytesFetchOrder nbits w = encode i ++ rest) : decodeTableWord nbits w = some i := by
  have hd : decode (bytesFetchOrder nbits w) = .ok i := decode_ok_iff.2 ⟨rest, h⟩
  have hbytes : tableBytes nbits w = bytesFetchOrder nbits w := by simp only [tableBytes, hd]
  simp only [decodeTableWord, hbytes, hd]

/-- A word that is no instruction in fetch order is the one that its bytes begin with from bits 7:0 on (log entry 31). -/
theorem decodeTableWord_of_lowFirst {nbits w : Nat} {i : Instr} {e : DecodeError} (rest : List Byte)
    (hfetch : decode (bytesFetchOrder nbits w) = .error e) (h : bytesLowFirst nbits w = encode i ++ rest) :
    decodeTableWord nbits w = some i := by
  have hd : decode (bytesLowFirst nbits w) = .ok i := decode_ok_iff.2 ⟨rest, h⟩
  have hbytes : tableBytes nbits w = bytesLowFirst nbits w := by simp only [tableBytes, hfetch]
  simp only [decodeTableWord, hbytes, hd]

/-- Bytes that begin with the second opcode byte are no instruction (R79). -/
theorem decode_opcodeByte_first (c : Byte) (rest : List Byte) :
    decode (opcodeByte :: c :: rest) = .error .notCpuid := by
  have hfirst : opcodeByte ≠ 0x0F := by decide
  have hpair : (opcodeByte, c) ≠ (0x0F, 0xA2) := fun h => hfirst (congrArg Prod.fst h)
  rw [decode_noPrefix (by decide) (by decide), decodeOpcode_other _ hpair]

end Sys2Proof.Proofs
end

section
/-! PROOFS. The statements about the encoding: decoding against encoding, the words of R71 and of the opcode table, and the
LOCK form. -/

namespace Sys2Proof.Proofs

open Sys2Proof.Machine Sys2Proof.Laws

/-- Settles O1: the inversion of the decoder and the round trip of the encoder. -/
theorem decodeExactlyEncoded : Obligations.DecodeExactlyEncoded := fun _ _ => decode_ok_iff

/-- Settles O2: in either order the number determines the two bytes, and R71's are the numbers of the opcode bytes. -/
theorem cpuidWordInBothByteOrders : Obligations.CpuidWordInBothByteOrders := by
  intro b c rest
  have hbig : (0x0FA2#16 : BitVec 16) = escapeByte ++ opcodeByte := rfl
  have hlittle : (0xA20F#16 : BitVec 16) = opcodeByte ++ escapeByte := rfl
  refine ⟨?bigEndian, ?littleEndian⟩
  case bigEndian => rw [decode_cpuid_iff, hbig, byte_append_inj]
  case littleEndian => rw [decode_cpuid_iff, hlittle, byte_append_inj, and_comm]

/-- Settles O3: the big-endian words are instructions in fetch order, and the little-endian ones, whose fetch order begins
with A2H, only from bits 7:0 on. -/
theorem tableWordsDecode : Obligations.TableWordsDecode :=
  ⟨decodeTableWord_of_fetchOrder [0] rfl, decodeTableWord_of_lowFirst [0] (decode_opcodeByte_first 0x0F [0]) rfl,
    decodeTableWord_of_fetchOrder [] rfl, decodeTableWord_of_lowFirst [] (decode_opcodeByte_first 0x0F [0xF0]) rfl⟩

/-- Settles O10: the meaning of the LOCK form is `#UD`, whatever the state (R461). -/
theorem lockCpuidRaisesUd : Obligations.LockCpuidRaisesUd := by
  intro s
  have hexec : exec .lockCpuid s = s.raiseUd := rfl
  rw [hexec, raiseUd_eq]

end Sys2Proof.Proofs
end

section
/-! SUPPORT. For the statements about leaf selection: what an input selects, the names of the leaves, and below which
value the EAX of a leaf stays. -/

namespace Sys2Proof.Proofs

open Sys2Proof.Machine Sys2Proof.Laws

/-! ### Selection -/

/-- An input selects itself or the highest basic leaf (R101). -/
theorem select_eq_or (s : State) (leaf : Word32) : s.select leaf = leaf ∨ s.select leaf = s.effMaxBasic := by
  unfold State.select
  split
  · exact .inl rfl
  · split
    · exact .inl rfl
    · exact .inr rfl

theorem select_effMaxBasic (s : State) : s.select s.effMaxBasic = s.effMaxBasic := select_le s _ (BitVec.le_refl _)

/-- The highest basic leaf is below the range of invalid leaves (R440; log entry 18). -/
theorem effMaxBasic_lt_invalid (s : State) : s.effMaxBasic < 0x40000000#32 := BitVec.lt_def.2 (effMaxBasic_toNat_lt s)

theorem effMaxBasic_lt_extended (s : State) : s.effMaxBasic < 0x80000000#32 :=
  BitVec.lt_trans (effMaxBasic_lt_invalid s) (by decide)

/-- An input from 80000000H on that is above the extended maximum selects the highest basic leaf (R101). -/
theorem select_above_ext {s : State} {leaf : Word32} (hlo : 0x80000000#32 ≤ leaf) (hhi : s.cfg.maxExt < leaf) :
    s.select leaf = s.effMaxBasic := by
  have hmax : s.effMaxBasic < leaf := by
    have := effMaxBasic_lt_extended s
    bv_omega
  exact select_out s leaf hmax (.inr hhi)

/-- With the highest basic leaf in EAX, `CPUID` returns its data for the ECX of the state (R101, R105). -/
theorem returns_writeReg32_effMaxBasic {s : State} (hs : s.cfg.cpuidSupported = true) :
    (s.writeReg32 .rax s.effMaxBasic).Returns (s.leafData s.effMaxBasic (s.subFor s.effMaxBasic s.subleafOperand)) := by
  have hin : s.SameInputs (s.writeReg32 .rax s.effMaxBasic) := sameInputs_writeReg32 s _ _
  have heax : (s.writeReg32 .rax s.effMaxBasic).leafOperand = s.effMaxBasic := reg32_writeReg32 s .rax .rax _
  have hecx : (s.writeReg32 .rax s.effMaxBasic).subleafOperand = s.subleafOperand := reg32_writeReg32 s .rax .rcx _
  rw [returns_iff, heax, hecx, ← cpuidValues_congr hin, cpuidValues_effMaxBasic, ← hin.cfg]
  exact ⟨hs, rfl⟩

/-! ### Unsupported leaves -/

/-- The data of an unsupported leaf is zero (R102). -/
theorem leafData_unsupported {s : State} {leaf : Word32} (hp : s.cfg.supports leaf = false) (n : Word32) :
    s.leafData leaf n = Quad.zero := by
  rw [State.leafData, hp, if_neg Bool.false_ne_true]

/-- Leaves 08H, 0CH, 0EH and 21H are supported on no processor (R260, R390). -/
theorem supports_never (c : Cfg) {leaf : Word32} (h : leaf = 0x08 ∨ leaf = 0x0C ∨ leaf = 0x0E ∨ leaf = 0x21) :
    c.supports leaf = false := by
  obtain rfl | rfl | rfl | rfl := h
  · rfl
  · rfl
  · rfl
  · rfl

/-! ### Leaf numbers -/

/-- Two numbers with one name are one number: each name stands in the table once. -/
theorem eq_of_ofWord {w v : Word32} {id : LeafId} (hw : LeafId.ofWord w = id) (hv : LeafId.ofWord v = id)
    (ho : id ≠ .other) : w = v := by
  have hnodup : (leafNumbers.map Prod.snd).Nodup := by decide
  exact congrArg Prod.fst (List.inj_on_of_nodup_map hnodup (ofWord_mem w id hw ho) (ofWord_mem v id hv ho) rfl)

/-- A name of a number below 80000000H is not one of an extended leaf (R101). -/
theorem ofWord_basic {w : Word32} (h : w < 0x80000000#32) :
    LeafId.ofWord w = .other ∨ LeafId.ofWord w ∉ extendedIds := by
  have htable : ∀ p ∈ leafNumbers, p.1 < 0x80000000#32 → p.2 ∉ extendedIds := by decide
  by_cases ho : LeafId.ofWord w = .other
  · exact .inl ho
  · exact .inr (htable _ (ofWord_mem w _ rfl ho) h)

/-! ### Values below 80000000H -/

/-- The value in EAX is below 80000000H: its bit 31 is 0. -/
def EaxBelowExtended (q : Quad) : Prop := bit q.eax 31 = false

theorem lt_extended_iff (v : Word32) : v < 0x80000000#32 ↔ bit v 31 = false := by
  have hmsb : bit v 31 = v.msb := (BitVec.msb_eq_getLsbD_last v).symm
  rw [hmsb, BitVec.msb_eq_false_iff_two_mul_lt, BitVec.lt_def]
  show v.toNat < 2147483648 ↔ 2 * v.toNat < 4294967296
  omega

theorem eaxBelowExtended_zero : EaxBelowExtended Quad.zero := rfl

theorem eaxBelowExtended_ite {c : Prop} [Decidable c] {q q' : Quad} (h : EaxBelowExtended q) (h' : EaxBelowExtended q') :
    EaxBelowExtended (if c then q else q') := by
  split
  · exact h
  · exact h'

/-- Every constant that the processor has for the EAX of the leaf is below 80000000H. -/
def ConstantsBelowExtended (c : Cfg) (leaf : Word32) : Prop := ∀ sub, EaxBelowExtended (c.raw leaf sub)

theorem bitValue_congr_raw (f : Field) {raw raw' : Word32} {i : Nat} (h : bit raw i = bit raw' i)
    (env : DynField → Word32) : f.bitValue raw env i = f.bitValue raw' env i := by
  obtain ⟨hi, lo, name, source⟩ := f
  cases source with
  | const | reserved => exact h
  | fixed v | live d => rfl

/-- A bit of a register depends on the processor's constant only through the same bit of it. -/
theorem regBit_congr_raw (fs : List Field) {raw raw' : Word32} {i : Nat} (h : bit raw i = bit raw' i)
    (env : DynField → Word32) : regBit fs raw env i = regBit fs raw' env i := by
  unfold regBit
  cases fs.find? (fun f => f.covers i) with
  | none => exact h
  | some f => exact bitValue_congr_raw f h env

/-- A page is below 80000000H in EAX where the processor's constant is, if the table makes bit 31 of a constant 0 a 0. -/
theorem eaxBelowExtended_page {s : State} {leaf sub : Word32} {l : Layout} (hraw : EaxBelowExtended (s.cfg.raw leaf sub))
    (hl : regBit l.eax 0 (s.dynValue sub (s.cfg.raw leaf sub)) 31 = false) : EaxBelowExtended (s.page leaf sub l) := by
  rw [EaxBelowExtended, page_eax, bit_render _ _ _ 31 (by decide), regBit_congr_raw l.eax (raw' := 0) hraw]
  exact hl

/-! ### The leaves with sub-leaves, branch by branch -/

theorem mainOnly_eaxBelowExtended {s : State} {leaf : Word32} {l : Layout} (h : ConstantsBelowExtended s.cfg leaf)
    (hl : regBit l.eax 0 (s.dynValue 0 (s.cfg.raw leaf 0)) 31 = false) (n : Word32) :
    EaxBelowExtended (s.mainOnly leaf n l) :=
  eaxBelowExtended_ite (eaxBelowExtended_page (h 0) hl) (h n)

/-- The core-ID field at the top of EAX is that of sub-leaf 0 (R201). -/
theorem leaf04_eaxBelowExtended {s : State} (h : ConstantsBelowExtended s.cfg 4) (n : Word32) :
    EaxBelowExtended (s.leaf04 n) := by
  have hcores : bit ((s.cfg.raw 4 0).eax >>> 26) 5 = false := (BitVec.getLsbD_ushiftRight _ _ _).trans (h 0)
  exact eaxBelowExtended_ite (eaxBelowExtended_page (h n) hcores)
    (eaxBelowExtended_ite (eaxBelowExtended_page (h n) rfl) eaxBelowExtended_zero)

theorem leaf07_eaxBelowExtended {s : State} (h : ConstantsBelowExtended s.cfg 7) (n : Word32) :
    EaxBelowExtended (s.leaf07 n) :=
  eaxBelowExtended_ite (eaxBelowExtended_page (h 0) rfl) <| eaxBelowExtended_ite eaxBelowExtended_zero <|
    eaxBelowExtended_ite (eaxBelowExtended_page (h 1) rfl) <|
      eaxBelowExtended_ite (eaxBelowExtended_page (h 2) rfl) (h n)

theorem leaf0B_eaxBelowExtended {s : State} (h : ConstantsBelowExtended s.cfg 0xB) (n : Word32) :
    EaxBelowExtended (s.leaf0B n) :=
  eaxBelowExtended_ite (eaxBelowExtended_page (h 0) rfl) <| eaxBelowExtended_ite (eaxBelowExtended_page (h 1) rfl) <|
    eaxBelowExtended_ite (eaxBelowExtended_page (h n) rfl) (eaxBelowExtended_page (h n) rfl)

theorem leaf0D_eaxBelowExtended {s : State} (h : ConstantsBelowExtended s.cfg 0xD) (n : Word32) :
    EaxBelowExtended (s.leaf0D n) :=
  eaxBelowExtended_ite (eaxBelowExtended_page (h 0) rfl) <| eaxBelowExtended_ite (eaxBelowExtended_page (h 1) rfl) <|
    eaxBelowExtended_ite (eaxBelowExtended_page (h n) rfl) eaxBelowExtended_zero

theorem leaf0F_eaxBelowExtended {s : State} (h : ConstantsBelowExtended s.cfg 0xF) (n : Word32) :
    EaxBelowExtended (s.leaf0F n) :=
  eaxBelowExtended_ite (eaxBelowExtended_page (h 0) rfl) <|
    eaxBelowExtended_ite (eaxBelowExtended_page (h 1) rfl) (h n)

theorem leaf10_eaxBelowExtended {s : State} (h : ConstantsBelowExtended s.cfg 0x10) (n : Word32) :
    EaxBelowExtended (s.leaf10 n) :=
  eaxBelowExtended_ite (eaxBelowExtended_page (h 0) rfl) <| eaxBelowExtended_ite (eaxBelowExtended_page (h 1) rfl) <|
    eaxBelowExtended_ite (eaxBelowExtended_page (h 2) rfl) <|
      eaxBelowExtended_ite (eaxBelowExtended_page (h 3) rfl) (h n)

theorem leaf12_eaxBelowExtended {s : State} (h : ConstantsBelowExtended s.cfg 0x12) (n : Word32) :
    EaxBelowExtended (s.leaf12 n) :=
  eaxBelowExtended_ite (eaxBelowExtended_page (h 0) rfl) <| eaxBelowExtended_ite (eaxBelowExtended_page (h 1) rfl) <|
    eaxBelowExtended_ite eaxBelowExtended_zero <|
      eaxBelowExtended_ite
        (eaxBelowExtended_ite (eaxBelowExtended_page (h n) rfl) (eaxBelowExtended_page (h n) rfl)) (h n)

theorem leaf14_eaxBelowExtended {s : State} (h : ConstantsBelowExtended s.cfg 0x14) (n : Word32) :
    EaxBelowExtended (s.leaf14 n) :=
  eaxBelowExtended_ite (eaxBelowExtended_page (h 0) rfl) <|
    eaxBelowExtended_ite (eaxBelowExtended_page (h 1) rfl) (h n)

theorem leaf17_eaxBelowExtended {s : State} (h : ConstantsBelowExtended s.cfg 0x17) (n : Word32) :
    EaxBelowExtended (s.leaf17 n) :=
  eaxBelowExtended_ite (eaxBelowExtended_page (h 0) rfl) <| eaxBelowExtended_ite (eaxBelowExtended_page (h n) rfl) <|
    eaxBelowExtended_ite eaxBelowExtended_zero (h n)

/-- A null sub-leaf 0 returns the maximum, which is 0 or the constant of EAX (R345). -/
theorem leaf18_eaxBelowExtended {s : State} (h : ConstantsBelowExtended s.cfg 0x18) (n : Word32) :
    EaxBelowExtended (s.leaf18 n) := by
  have hmax : bit s.cfg.maxTlbSub 31 = false := by
    unfold Cfg.maxTlbSub
    split
    · rfl
    · exact h 0
  exact eaxBelowExtended_ite eaxBelowExtended_zero <|
    eaxBelowExtended_ite (eaxBelowExtended_ite hmax eaxBelowExtended_zero) <|
      eaxBelowExtended_ite (eaxBelowExtended_page (h 0) rfl) (eaxBelowExtended_page (h n) rfl)

theorem leaf1B_eaxBelowExtended {s : State} (h : ConstantsBelowExtended s.cfg 0x1B) (n : Word32) :
    EaxBelowExtended (s.leaf1B n) :=
  eaxBelowExtended_ite (eaxBelowExtended_page (h n) rfl) eaxBelowExtended_zero

theorem leaf1D_eaxBelowExtended {s : State} (h : ConstantsBelowExtended s.cfg 0x1D) (n : Word32) :
    EaxBelowExtended (s.leaf1D n) :=
  eaxBelowExtended_ite (eaxBelowExtended_page (h 0) rfl) <|
    eaxBelowExtended_ite (eaxBelowExtended_page (h 1) rfl) (h n)

theorem leaf1F_eaxBelowExtended {s : State} (h : ConstantsBelowExtended s.cfg 0x1F) (n : Word32) :
    EaxBelowExtended (s.leaf1F n) :=
  eaxBelowExtended_ite (eaxBelowExtended_page (h n) rfl) (eaxBelowExtended_page (h n) rfl)

theorem leaf23_eaxBelowExtended {s : State} (h : ConstantsBelowExtended s.cfg 0x23) (n : Word32) :
    EaxBelowExtended (s.leaf23 n) :=
  eaxBelowExtended_ite (eaxBelowExtended_page (h 0) rfl) <|
    eaxBelowExtended_ite
      (eaxBelowExtended_ite (eaxBelowExtended_page (h 1) rfl) <|
        eaxBelowExtended_ite (eaxBelowExtended_page (h 2) rfl) <|
          eaxBelowExtended_ite (eaxBelowExtended_page (h 3) rfl) (h n))
      eaxBelowExtended_zero

/-! ### The data of the highest basic leaf -/

/-- The data of a basic leaf is below 80000000H in EAX where its constants are. Three leaves have something else in bit 31
of EAX: 00H the maximum basic leaf, 04H the core IDs, 09H a part of IA32_PLATFORM_DCA_CAP. -/
theorem leafValues_eaxBelowExtended {s : State} {leaf : Word32} (hleaf : leaf < 0x80000000#32)
    (hconst : ConstantsBelowExtended s.cfg leaf) (hdca : leaf = 9 → s.dcaCap.getLsbD 31 = false) (n : Word32) :
    EaxBelowExtended (s.leafValues leaf n) := by
  have hnamed : ∀ {id w}, LeafId.ofWord leaf = id → LeafId.ofWord w = id → id ≠ .other →
      ConstantsBelowExtended s.cfg w := fun hleaf hw ho => eq_of_ofWord hleaf hw ho ▸ hconst
  unfold State.leafValues
  cases hid : LeafId.ofWord leaf with
  | other => exact hconst 0
  | b08 | b0C | b0E | b21 => exact eaxBelowExtended_zero
  | b00 =>
    have hmax : bit s.effMaxBasic 31 = false := (lt_extended_iff _).1 (effMaxBasic_lt_extended s)
    exact eaxBelowExtended_page (hnamed hid rfl nofun 0) hmax
  | b09 =>
    have hcap : (s.dcaCap.setWidth 32).getLsbD 31 = false :=
      (BitVec.getLsbD_setWidth 32 _ 31).trans (hdca (eq_of_ofWord hid rfl nofun))
    exact eaxBelowExtended_page (hnamed hid rfl nofun 0) hcap
  | b01 | b02 | b03 | b05 | b06 | b0A | b16 | b19 | b1C => exact eaxBelowExtended_page (hnamed hid rfl nofun 0) rfl
  | b15 | b1A | b1E | b20 | b24 => exact mainOnly_eaxBelowExtended (hnamed hid rfl nofun) rfl n
  | b04 => exact leaf04_eaxBelowExtended (hnamed hid rfl nofun) n
  | b07 => exact leaf07_eaxBelowExtended (hnamed hid rfl nofun) n
  | b0B => exact leaf0B_eaxBelowExtended (hnamed hid rfl nofun) n
  | b0D => exact leaf0D_eaxBelowExtended (hnamed hid rfl nofun) n
  | b0F => exact leaf0F_eaxBelowExtended (hnamed hid rfl nofun) n
  | b10 => exact leaf10_eaxBelowExtended (hnamed hid rfl nofun) n
  | b12 => exact leaf12_eaxBelowExtended (hnamed hid rfl nofun) n
  | b14 => exact leaf14_eaxBelowExtended (hnamed hid rfl nofun) n
  | b17 => exact leaf17_eaxBelowExtended (hnamed hid rfl nofun) n
  | b18 => exact leaf18_eaxBelowExtended (hnamed hid rfl nofun) n
  | b1B => exact leaf1B_eaxBelowExtended (hnamed hid rfl nofun) n
  | b1D => exact leaf1D_eaxBelowExtended (hnamed hid rfl nofun) n
  | b1F => exact leaf1F_eaxBelowExtended (hnamed hid rfl nofun) n
  | b23 => exact leaf23_eaxBelowExtended (hnamed hid rfl nofun) n
  | e0 | e1 | e2 | e3 | e4 | e5 | e6 | e7 | e8 =>
    have hbasic := ofWord_basic hleaf
    rw [hid] at hbasic
    exact absurd hbasic (by decide)

/-- The maximum is the processor's, or 2 where IA32_MISC_ENABLE[22] hides the leaves above (R103). -/
theorem effMaxBasic_cases (s : State) :
    s.effMaxBasic = s.cfg.maxBasicWord ∨
      s.effMaxBasic = 2 ∧ s.cfg.limitRemovable = true ∧ 2#32 ≤ s.cfg.maxBasicWord := by
  by_cases hlim : s.maxLeafLimited = true
  · obtain ⟨-, hr⟩ : s.miscEnable.getLsbD 22 = true ∧ s.cfg.limitRemovable = true := Bool.and_eq_true_iff.1 hlim
    rw [State.effMaxBasic, if_pos hlim]
    split
    · exact .inl rfl
    · next hgt => exact .inr ⟨rfl, hr, BitVec.le_of_lt (BitVec.not_le.1 hgt)⟩
  · exact .inl (effMaxBasic_unlimited (Bool.not_eq_true _ ▸ hlim))

/-- Without extended functions the data of the highest basic leaf of a legal state is below 80000000H in EAX (R421; log
entry 42). -/
theorem leafData_effMaxBasic_eaxBelowExtended {s : State} (h : s.Legal) (hx : s.cfg.hasExtended = false) (n : Word32) :
    EaxBelowExtended (s.leafData s.effMaxBasic n) := by
  have hlast : s.cfg.lastLeafBelowExtended = true := admissible_lastLeafBelowExtended _ h.processor
  unfold State.leafData
  split
  · next hsup =>
    obtain hmax | ⟨htwo, hr, hle⟩ := effMaxBasic_cases s
    · refine leafValues_eaxBelowExtended (effMaxBasic_lt_extended s) ?_ (h.dca hx) n
      rw [hmax]
      exact raw_eax_last _ hlast hx
    · rw [htwo] at hsup ⊢
      exact eaxBelowExtended_page (raw_eax_limited _ hlast hx hr hle hsup) rfl
  · exact eaxBelowExtended_zero

end Sys2Proof.Proofs
end

section
/-! PROOFS. The statements about leaf selection: the partition of all values of EAX, its invalid and unsupported leaves, and
what an input of 80000000H returns with and without extended functions. -/

namespace Sys2Proof.Proofs

open Sys2Proof.Machine Sys2Proof.Laws

/-- Settles O48: 80000000H is above the extended maximum, and no leaf that can be the highest has bit 31 of EAX set. -/
theorem noExtendedFunctionsRecognised : Obligations.NoExtendedFunctionsRecognised := by
  intro s hlegal hs hleaf hext
  have hsel : s.Selects s.effMaxBasic := ⟨hs, by rw [hleaf]; exact select_above_ext (BitVec.le_refl _) hext⟩
  have hx : s.cfg.hasExtended = false := decide_eq_false (BitVec.not_le.2 hext)
  exact ⟨_, returns_leafData s _ hsel, rfl,
    (lt_extended_iff _).2 (leafData_effMaxBasic_eaxBelowExtended hlegal hx _)⟩

/-- Settles O47: 80000000H is in the extended range, and its EAX is one field, the maximum. -/
theorem maximumExtendedLeaf : Obligations.MaximumExtendedLeaf := by
  intro s hs hleaf hext
  have hsel : s.Selects 0x80000000 := ⟨hs, by rw [hleaf]; exact select_ext s _ (BitVec.le_refl _) hext⟩
  exact ⟨_, returns_page s _ layoutE0 ⟨hsel, rfl⟩ fun _ => rfl, render_live _ .maxExt _ _⟩

/-- Settles O19: each range selects the input or the highest basic leaf. -/
theorem leafPartition : Obligations.LeafPartition := by
  refine fun s hs => ⟨fun hle => ?basic, fun hlo hhi => ?aboveBasic, fun hlo hhi => ?extended,
    fun hlo hhi => ?aboveExtended, fun leaf n hp => ?unsupported, fun leaf hleaf => ?never⟩
  case basic => exact returns_leafData s _ ⟨hs, select_le s _ hle⟩
  case aboveBasic => exact returns_leafData s _ ⟨hs, select_out s _ hlo (.inl hhi)⟩
  case extended => exact returns_leafData s _ ⟨hs, select_ext s _ hlo hhi⟩
  case aboveExtended => exact returns_leafData s _ ⟨hs, select_above_ext hlo hhi⟩
  case unsupported => exact leafData_unsupported hp n
  case never => exact supports_never s.cfg hleaf

/-- Settles O21: the range lies between the highest basic leaf and 80000000H. -/
theorem invalidRangeFallsBack : Obligations.InvalidRangeFallsBack := by
  intro s hs hlo hhi
  have hmax : s.effMaxBasic < 0x40000000#32 := effMaxBasic_lt_invalid s
  have hsel : s.select s.leafOperand = s.effMaxBasic := select_out s _ (by bv_omega) (.inl (by bv_omega))
  exact ⟨hmax, hsel, returns_leafData s _ ⟨hs, hsel⟩⟩

/-- Settles O22: an input that does not select itself selects the highest basic leaf, as that leaf itself does. -/
theorem outOfRangeHonorsEcx : Obligations.OutOfRangeHonorsEcx := by
  intro s hs hne
  have hsel : s.select s.leafOperand = s.effMaxBasic := (select_eq_or s _).resolve_left hne
  exact ⟨_, returns_leafData s _ ⟨hs, hsel⟩, returns_writeReg32_effMaxBasic hs⟩

/-- Settles O23: none of the named leaves is supported, 12H by its flag. -/
theorem unsupportedLeafReturnsZero : Obligations.UnsupportedLeafReturnsZero := by
  refine ⟨returns_of_unsupported, fun s leaf hsel hleaf => returns_of_unsupported s leaf hsel ?_⟩
  obtain h08 | h0C | h0E | h21 | ⟨rfl, hsgx⟩ := hleaf
  · exact supports_never s.cfg (.inl h08)
  · exact supports_never s.cfg (.inr (.inl h0C))
  · exact supports_never s.cfg (.inr (.inr (.inl h0E)))
  · exact supports_never s.cfg (.inr (.inr (.inr h21)))
  · exact hsgx

/-- Settles O20: an input selects itself or the highest basic leaf, and each of them selects itself. -/
theorem selectIdempotentInRange : Obligations.SelectIdempotentInRange := by
  refine fun s leaf => ⟨?_, inRange_select s leaf⟩
  obtain hself | hmax := select_eq_or s leaf
  · rw [hself, hself]
  · rw [hmax, select_effMaxBasic]

end Sys2Proof.Proofs
end

section
/-! SUPPORT. For the statements about leaves 00H to 03H: a field as a slice of bits, bytes of a rendered register, the
fields of leaf 01H, and the descriptors of leaf 02H. -/

namespace Sys2Proof.Proofs

open Sys2Proof.Machine Sys2Proof.Laws

/-! ### Fields and bytes -/

/-- A field is the number of the slice of bits it names (R11). -/
theorem field_eq_toNat_extract (v : Word32) (hi lo : Nat) : field v hi lo = (v.extractLsb' lo (hi - lo + 1)).toNat :=
  (BitVec.extractLsb'_toNat _ _ v).symm

/-- Two slices after each other, as a number (R13). -/
theorem nibbles_toNat (a b : BitVec 4) : (a ++ b : BitVec 8).toNat = a.toNat * 16 + b.toNat := by
  rw [BitVec.toNat_append, Nat.shiftLeft_eq, Nat.mul_comm, Nat.two_pow_add_eq_or_of_lt b.isLt, Nat.mul_comm]

/-- A one-bit field that the source fixes. -/
theorem bit_render_fixd {fs : List Field} {n v : Nat} {name : String} (h : owns fs (fixd n n name v) = true)
    (raw : Word32) (env : DynField → Word32) : bit (renderReg fs raw env) n = v.testBit 0 := by
  rw [bit_render_owned h (Nat.le_refl n) (Nat.le_refl n)]
  simp [fixd, Field.bitValue]

/-- Registers that agree from the lowest bit of a byte on have the same byte there. -/
theorem byteOf_congr {r r' : Word32} {k : Nat} (h : ∀ i, 8 * k ≤ i → bit r i = bit r' i) : byteOf r k = byteOf r' k := by
  apply BitVec.eq_of_getLsbD_eq
  intro i hi
  rw [byteOf, byteOf, BitVec.getLsbD_extractLsb', BitVec.getLsbD_extractLsb']
  exact congrArg _ (h _ (Nat.le_add_right _ _))

/-! ### The version information of leaf 01H -/

/-- The raw family field, tested as a number or as four bits (R143). -/
theorem family_eq_iff (v : Word32) (n : BitVec 4) : field v 11 8 = n.toNat ↔ v.extractLsb' 8 4 = n := by
  rw [field_eq_toNat_extract]
  exact BitVec.toNat_inj

theorem displayModel_extended {v : Word32} (h : field v 11 8 = 6 ∨ field v 11 8 = 0xF) :
    displayModel v = field v 19 16 * 16 + field v 7 4 := if_pos h

theorem displayModel_plain {v : Word32} (h : ¬ (field v 11 8 = 6 ∨ field v 11 8 = 0xF)) :
    displayModel v = field v 7 4 := if_neg h

theorem displayFamily_plain {v : Word32} (h : field v 11 8 ≠ 0xF) : displayFamily v = field v 11 8 := if_pos h

theorem displayFamily_extended {v : Word32} (h : field v 11 8 = 0xF) : displayFamily v = field v 27 20 + 0xF := by
  rw [displayFamily, if_neg (not_not.2 h), h]

/-! ### The fields of leaf 01H -/

theorem page01_initialApicId (s : State) :
    (s.page 1 0 layout01).ebx.extractLsb' 24 8 = s.cfg.lp.initialApicId := by
  apply BitVec.eq_of_toNat_eq
  calc ((s.page 1 0 layout01).ebx.extractLsb' 24 8).toNat
      = field (s.page 1 0 layout01).ebx 31 24 := (field_eq_toNat_extract _ 31 24).symm
    _ = (s.cfg.lp.initialApicId.setWidth 32).toNat % 2 ^ 8 :=
        field_render _ (live 31 24 "Initial APIC ID" .initialApicId) _ _ (by decide)
    _ = s.cfg.lp.initialApicId.toNat := by
        have := s.cfg.lp.initialApicId.isLt
        rw [BitVec.toNat_setWidth]
        omega

theorem page01_psn (s : State) :
    bit (s.page 1 0 layout01).edx 18 = (bit (s.cfg.raw 1 0).edx 18 && s.psnEnabled && !s.cfg.pentium4OrLater) :=
  (bit_render_live (name := "PSN") (d := .psn) (by decide) _ _).trans (wordOfBool_bit _)

theorem page01_notUsed (s : State) : bit (s.page 1 0 layout01).ecx 31 = false :=
  bit_render_fixd (name := "Not Used") (v := 0) (by decide) _ _

/-! ### The descriptors of leaf 02H -/

theorem registerDescriptors_length_le (r : Word32) (first : Nat) : (registerDescriptors r first).length ≤ 4 - first := by
  unfold registerDescriptors
  split
  · exact Nat.zero_le _
  · exact (List.length_filter_le _ _).trans (List.length_drop ▸ Nat.le_refl _)

/-- A byte that the procedure reads is a byte of a valid register, from the first descriptor on, and not null (R163). -/
theorem mem_registerDescriptors {r : Word32} {first : Nat} {d : Byte} (h : d ∈ registerDescriptors r first) :
    bit r 31 = false ∧ d ≠ 0 ∧ ∃ k, first ≤ k ∧ k < 4 ∧ d = byteOf r k := by
  unfold registerDescriptors at h
  split at h
  · cases h
  · next hvalid =>
    obtain ⟨hmem, hd⟩ := List.mem_filter.1 h
    obtain ⟨j, hj, rfl⟩ := List.mem_drop_iff_getElem.1 hmem
    have hbytes : bytesOf r = (List.range 4).map (byteOf r) := rfl
    refine ⟨Bool.eq_false_iff.2 hvalid, bne_iff_ne.1 hd, first + j, Nat.le_add_right _ _, Nat.add_comm j first ▸ hj, ?_⟩
    simp only [hbytes, List.getElem_map, List.getElem_range]

/-- What the procedure finds in a register that holds only defined descriptors (R160, R161). -/
theorem registerDescriptors_defined {r : Word32} {first : Nat} (hdef : descriptorsDefined r first = true) {d : Byte}
    (h : d ∈ registerDescriptors r first) : d ≠ 0 ∧ (descriptorOf d).isSome = true := by
  obtain ⟨hvalid, hd, k, hfirst, hk, rfl⟩ := mem_registerDescriptors h
  simp only [descriptorsDefined, hvalid, Bool.false_or, List.all_eq_true, List.mem_range, Bool.or_eq_true,
    decide_eq_true_eq] at hdef
  exact ⟨hd, (hdef k hk).resolve_left (by omega)⟩

/-- The descriptors from byte 1 on do not depend on byte 0. -/
theorem registerDescriptors_one_congr {r r' : Word32} (h : ∀ i, 8 ≤ i → bit r i = bit r' i) :
    registerDescriptors r 1 = registerDescriptors r' 1 := by
  have hbyte : ∀ k, 1 ≤ k → byteOf r k = byteOf r' k := fun k hk => byteOf_congr fun i hi => h i (by omega)
  simp only [registerDescriptors, bytesOf, List.drop_succ_cons, List.drop_zero, h 31 (by decide),
    hbyte 1 (by decide), hbyte 2 (by decide), hbyte 3 (by decide)]

theorem leaf02Descriptors_length_le (q : Quad) : (leaf02Descriptors q).length ≤ 15 := by
  have heax := registerDescriptors_length_le q.eax 1
  have hebx := registerDescriptors_length_le q.ebx 0
  have hecx := registerDescriptors_length_le q.ecx 0
  have hedx := registerDescriptors_length_le q.edx 0
  simp only [leaf02Descriptors, List.length_append]
  omega

/-- AL, which the procedure does not read, is the one field of leaf 02H that is not a constant of the processor (R160). -/
theorem leaf02Descriptors_page02 (s : State) :
    leaf02Descriptors (s.page 2 0 layout02) = leaf02Descriptors (s.cfg.raw 2 0) := by
  have hconst : ∀ f ∈ layout02.eax, f.hi = 7 ∨ constantSource f.source = true := by decide
  have heax : registerDescriptors (s.page 2 0 layout02).eax 1 = registerDescriptors (s.cfg.raw 2 0).eax 1 := by
    refine registerDescriptors_one_congr fun i hi => bit_render_constant (fun f hf hc => ?_) _ _
    have := (covers_iff f i).1 hc
    exact (hconst f hf).resolve_left (by omega)
  have hebx : (s.page 2 0 layout02).ebx = (s.cfg.raw 2 0).ebx := render_constant (by decide) _ _
  have hecx : (s.page 2 0 layout02).ecx = (s.cfg.raw 2 0).ecx := render_constant (by decide) _ _
  have hedx : (s.page 2 0 layout02).edx = (s.cfg.raw 2 0).edx := render_constant (by decide) _ _
  rw [leaf02Descriptors, heax, hebx, hecx, hedx, leaf02Descriptors]

theorem page02_al (s : State) : byteOf (s.page 2 0 layout02).eax 0 = 0x01 := by
  apply BitVec.eq_of_toNat_eq
  calc (byteOf (s.page 2 0 layout02).eax 0).toNat
      = field (s.page 2 0 layout02).eax 7 0 := (field_eq_toNat_extract _ 7 0).symm
    _ = 1 := field_render _ (fixd 7 0 "01H" 1) _ _ (by decide)

/-- The constants of leaf 02H of an admissible processor hold only defined descriptors (R160). -/
theorem leaf02Descriptors_raw_defined {c : Cfg} (hadm : c.admissible = true) (himpl : c.implements 2 = true) {d : Byte}
    (h : d ∈ leaf02Descriptors (c.raw 2 0)) : d ≠ 0 ∧ (descriptorOf d).isSome = true := by
  have hdef := admissible_leaf02Defined c hadm
  simp only [Cfg.leaf02Defined, himpl, Bool.not_true, Bool.false_or, Bool.and_eq_true] at hdef
  obtain ⟨⟨⟨heax, hebx⟩, hecx⟩, hedx⟩ := hdef
  simp only [leaf02Descriptors, List.mem_append] at h
  obtain ((h | h) | h) | h := h
  · exact registerDescriptors_defined heax h
  · exact registerDescriptors_defined hebx h
  · exact registerDescriptors_defined hecx h
  · exact registerDescriptors_defined hedx h

end Sys2Proof.Proofs
end

section
/-! PROOFS. The statements about leaves 00H to 03H: the vendor string, the identity fields of leaf 01H, the display family
and model, and the descriptors of leaf 02H. -/

namespace Sys2Proof.Proofs

open Sys2Proof.Machine Sys2Proof.Laws

/-- Settles O26: every processor supports leaf 00H, whose registers are the maximum and three fixed values. -/
theorem leafZeroVendorString : Obligations.LeafZeroVendorString := by
  intro s h
  have heax : (s.page 0 0 layout00).eax = s.effMaxBasic := render_live _ .effMaxBasic _ _
  have hebx : (s.page 0 0 layout00).ebx = 0x756E6547 := render_fixd _ _ _ _
  have hedx : (s.page 0 0 layout00).edx = 0x49656E69 := render_fixd _ _ _ _
  have hecx : (s.page 0 0 layout00).ecx = 0x6C65746E := render_fixd _ _ _ _
  refine ⟨_, returns_page s 0 layout00 ⟨h, rfl⟩ fun _ => rfl, heax, fun hlim => ?max, hebx, hedx, hecx, ?string⟩
  case max => rw [heax, effMaxBasic_unlimited (by rw [State.maxLeafLimited, hlim, Bool.false_and])]
  case string => rw [vendorString, hebx, hedx, hecx]; rfl

/-- Settles O28: the three fields, read from the tables of leaf 01H. -/
theorem leafOneIdentity : Obligations.LeafOneIdentity := fun s h =>
  ⟨_, returns_page01 h, page01_initialApicId s, page01_psn s, page01_notUsed s⟩

/-- Settles O29: the descriptors are those of the processor's constants, three in EAX and four in each other register. -/
theorem leafTwoDescriptors : Obligations.LeafTwoDescriptors := by
  intro s h hadm
  refine ⟨_, returns_page s 2 layout02 h fun _ => rfl, page02_al s, leaf02Descriptors_length_le _, fun d hd => ?_⟩
  rw [leaf02Descriptors_page02] at hd
  exact leaf02Descriptors_raw_defined hadm (implements_of_queries s 2 h rfl) hd

/-- Settles O57: the model is tested and read on the raw fields. -/
theorem displayModelConcatenates : Obligations.DisplayModelConcatenates := by
  intro v
  have h6 : field v 11 8 = 6 ↔ v.extractLsb' 8 4 = 0x6#4 := family_eq_iff v 0x6#4
  have hF : field v 11 8 = 0xF ↔ v.extractLsb' 8 4 = 0xF#4 := family_eq_iff v 0xF#4
  refine ⟨fun hfam => ?extended, fun hne6 hneF => ?plain⟩
  case extended =>
    rw [displayModel_extended (hfam.imp h6.2 hF.2), nibbles_toNat, field_eq_toNat_extract, field_eq_toNat_extract]
  case plain =>
    rw [displayModel_plain (not_or.2 ⟨mt h6.1 hne6, mt hF.1 hneF⟩), field_eq_toNat_extract]

/-- Settles O58: the family field is of four bits and the extended one of eight, so the sum is at most FFH + 0FH. -/
theorem displayFamilyRange : Obligations.DisplayFamilyRange := by
  intro v
  have hF : field v 11 8 = 0xF ↔ v.extractLsb' 8 4 = 0xF#4 := family_eq_iff v 0xF#4
  refine ⟨fun hne => ?plain, fun heq => ?extended⟩
  case plain =>
    have hfam : field v 11 8 = (v.extractLsb' 8 4).toNat := field_eq_toNat_extract v 11 8
    have hlt := (v.extractLsb' 8 4).isLt
    have hneF : field v 11 8 ≠ 0xF := mt hF.1 hne
    rw [displayFamily_plain hneF]
    exact ⟨hfam, by omega⟩
  case extended =>
    have hext : field v 27 20 = (v.extractLsb' 20 8).toNat := field_eq_toNat_extract v 27 20
    have hlt := (v.extractLsb' 20 8).isLt
    rw [displayFamily_extended (hF.2 heq), hext]
    exact ⟨rfl, by omega, by omega⟩

end Sys2Proof.Proofs
end

section
/-! SUPPORT. For the statements about leaf 04H: constant fields of a rendered register, the three ranges of sub-leaves, and
how the fields of a cache bound its size. -/

namespace Sys2Proof.Proofs

open Sys2Proof.Machine Sys2Proof.Laws

/-! ### The sub-leaves of leaf 04H -/

/-- A field that is a constant of the processor. -/
theorem field_render_fld {fs : List Field} {hi lo : Nat} {name : String} (h : owns fs (fld hi lo name) = true)
    (raw : Word32) (env : DynField → Word32) : field (renderReg fs raw env) hi lo = field raw hi lo :=
  field_render fs (fld hi lo name) raw env h

theorem leaf04_below {s : State} {n : Word32} (h : n.toNat < s.cfg.cacheCount) : s.leaf04 n = s.page 4 n layout04 :=
  if_pos h

theorem leaf04_null {s : State} {n : Word32} (h : n.toNat = s.cfg.cacheCount) : s.leaf04 n = s.page 4 n layout04Null := by
  rw [State.leaf04, if_neg (by omega), if_pos h]

theorem leaf04_above {s : State} {n : Word32} (h : s.cfg.cacheCount < n.toNat) : s.leaf04 n = Quad.zero := by
  rw [State.leaf04, if_neg (by omega), if_neg (by omega)]

theorem page04_type (s : State) (n : Word32) :
    field (s.page 4 n layout04).eax 4 0 = field (s.cfg.raw 4 n).eax 4 0 :=
  field_render_fld (name := "Cache Type Field") (by decide) _ _

theorem page04_level (s : State) (n : Word32) :
    field (s.page 4 n layout04).eax 7 5 = field (s.cfg.raw 4 n).eax 7 5 :=
  field_render_fld (name := "Cache Level") (by decide) _ _

/-- The core-ID field of every cache is read from the constants of sub-leaf 0 (R201). -/
theorem page04_coreIds (s : State) (n : Word32) :
    field (s.page 4 n layout04).eax 31 26 = field (s.cfg.raw 4 0).eax 31 26 := by
  have hlive : field (s.page 4 n layout04).eax 31 26 = ((s.cfg.raw 4 0).eax >>> 26).toNat % 2 ^ 6 :=
    field_render _ (live 31 26 "Maximum number of addressable IDs for processor cores in the physical package, minus one"
      .coreIds) _ _ (by decide)
  rw [hlive, BitVec.toNat_ushiftRight, field]

theorem page04Null_type (s : State) (n : Word32) : field (s.page 4 n layout04Null).eax 4 0 = 0 :=
  field_render _ (fixd 4 0 "Cache Type Field: Null" 0) _ _ (by decide)

/-- The constants of a cache of an admissible processor have a type and a level (R200, R201). -/
theorem raw04_typed {c : Cfg} (hadm : c.admissible = true) (himpl : c.implements 4 = true) {n : Word32}
    (hn : n.toNat < c.cacheCount) : field (c.raw 4 n).eax 4 0 ≠ 0 ∧ field (c.raw 4 n).eax 7 5 ≠ 0 := by
  have hall := admissible_cachesTyped c hadm
  simp only [Cfg.cachesTyped, himpl, Bool.not_true, Bool.false_or, List.all_eq_true, List.mem_range, Bool.and_eq_true,
    bne_iff_ne] at hall
  have hcache := hall n.toNat hn
  rwa [BitVec.ofNat_toNat, BitVec.setWidth_eq] at hcache

/-! ### The size of a cache -/

theorem addOne_pos (v : Word32) (hi lo : Nat) : 0 < addOne v hi lo := Nat.succ_pos _

theorem addOne_le (v : Word32) (hi lo : Nat) : addOne v hi lo ≤ 2 ^ (hi - lo + 1) :=
  Nat.mod_lt _ (Nat.two_pow_pos _)

/-- A word is the sum of the three fields of EBX of a cache, each at its place (R201). -/
theorem toNat_eq_cacheFields (v : Word32) :
    v.toNat = field v 31 22 * 2 ^ 22 + field v 21 12 * 2 ^ 12 + field v 11 0 := by
  have := v.isLt
  simp only [field, Nat.shiftRight_eq_div_pow]
  omega

/-- The ways, partitions and line size are all at their greatest exactly in the word of ones. -/
theorem cacheFields_max_iff (v : Word32) :
    ((addOne v 31 22 = 2 ^ 10 ∧ addOne v 21 12 = 2 ^ 10) ∧ addOne v 11 0 = 2 ^ 12) ↔ v = 0xFFFFFFFF#32 := by
  constructor
  · rintro ⟨⟨hways, hparts⟩, hline⟩
    have hsum := toNat_eq_cacheFields v
    apply BitVec.eq_of_toNat_eq
    simp only [addOne] at hways hparts hline
    rw [hsum, BitVec.toNat_ofNat]
    omega
  · rintro rfl
    decide

theorem sets_max_iff (v : Word32) : v.toNat + 1 = 2 ^ 32 ↔ v = 0xFFFFFFFF#32 := by
  rw [← BitVec.toNat_inj, BitVec.toNat_ofNat]
  omega

end Sys2Proof.Proofs
end

section
/-! PROOFS. The statements about leaf 04H: its sub-leaves, and the greatest cache size. -/

namespace Sys2Proof.Proofs

open Sys2Proof.Machine Sys2Proof.Laws

/-- Settles O30, one range of sub-leaves after the other. -/
theorem leafFourCaches : Obligations.LeafFourCaches := by
  intro s h hadm
  have hret : s.Returns (s.leaf04 s.subleafOperand) := returns_of_queries_sub s 4 h rfl
  have hret0 : (s.withSub 0).Returns (s.leaf04 0) := returns_withSub s 4 0 h rfl
  refine ⟨_, hret, fun hlt => ?below, fun heq => ?null, leaf04_above⟩
  case below =>
    have hzero : s.leaf04 0 = s.page 4 0 layout04 := leaf04_below (Nat.zero_lt_of_lt hlt)
    obtain ⟨htype, hlevel⟩ := raw04_typed hadm (implements_of_queries s 4 h rfl) hlt
    rw [leaf04_below hlt, page04_type, page04_level, page04_coreIds]
    refine ⟨htype, hlevel, field_render_zeros (by decide) _ _, _, hret0, ?_⟩
    rw [hzero, page04_coreIds]
  case null => rw [leaf04_null heq, page04Null_type]

/-- Settles O59: each factor is at most its power of 2, and a product of positive factors reaches the product of their bounds
only where each reaches its own. -/
theorem cacheSizeBound : Obligations.CacheSizeBound := by
  intro ebx ecx
  have hways : addOne ebx 31 22 ≤ 2 ^ 10 := addOne_le ebx 31 22
  have hparts : addOne ebx 21 12 ≤ 2 ^ 10 := addOne_le ebx 21 12
  have hline : addOne ebx 11 0 ≤ 2 ^ 12 := addOne_le ebx 11 0
  have hsets : ecx.toNat + 1 ≤ 2 ^ 32 := ecx.isLt
  have hwp := Nat.mul_le_mul hways hparts
  have hwpl := Nat.mul_le_mul hwp hline
  have hwp0 := Nat.mul_pos (addOne_pos ebx 31 22) (addOne_pos ebx 21 12)
  have hwpl0 := Nat.mul_pos hwp0 (addOne_pos ebx 11 0)
  have hbound : (2 : Nat) ^ 64 = 2 ^ 10 * 2 ^ 10 * 2 ^ 12 * 2 ^ 32 := by decide
  rw [cacheSizeBytes, hbound]
  refine ⟨Nat.mul_le_mul hwpl hsets, ?_⟩
  rw [mul_eq_mul_iff_eq_and_eq_of_pos hwpl hsets hwpl0 (by decide),
    mul_eq_mul_iff_eq_and_eq_of_pos hwp hline hwp0 (by decide),
    mul_eq_mul_iff_eq_and_eq_of_pos hways hparts (addOne_pos ebx 31 22) (by decide), cacheFields_max_iff, sets_max_iff]

end Sys2Proof.Proofs
end

section
/-! SUPPORT. For the statements about leaves 0BH, 0DH and 12H: the sub-leaves of leaf 0BH and their domain types, the two
vectors, the components and the sizes of leaf 0DH, and the sections of leaf 12H. -/

namespace Sys2Proof.Proofs

open Sys2Proof.Machine Sys2Proof.Laws

/-! ### The sub-leaves of leaf 0BH -/

/-- A field that the source fixes. -/
theorem field_render_fixd {fs : List Field} {hi lo v : Nat} {name : String} (h : owns fs (fixd hi lo name v) = true)
    (raw : Word32) (env : DynField → Word32) : field (renderReg fs raw env) hi lo = v % 2 ^ (hi - lo + 1) :=
  field_render fs (fixd hi lo name v) raw env h

theorem leaf0B_zero (s : State) : s.leaf0B 0 = s.page 0xB 0 (layout0B 1) := rfl

theorem leaf0B_one (s : State) : s.leaf0B 1 = s.page 0xB 1 (layout0B 2) := rfl

theorem ne_zero_of_two_le {n : Word32} (h : 2 ≤ n.toNat) : n ≠ 0 := by rintro rfl; exact absurd h (by decide)

theorem ne_one_of_two_le {n : Word32} (h : 2 ≤ n.toNat) : n ≠ 1 := by rintro rfl; exact absurd h (by decide)

theorem leaf0B_extra {s : State} {n : Word32} (h2 : 2 ≤ n.toNat) (h : n.toNat < 2 + s.cfg.extraDomains) :
    s.leaf0B n = s.page 0xB n layout0BExtra := by
  rw [State.leaf0B, if_neg (ne_zero_of_two_le h2), if_neg (ne_one_of_two_le h2), if_pos h]

theorem leaf0B_invalid {s : State} {n : Word32} (h : 2 + s.cfg.extraDomains ≤ n.toNat) :
    s.leaf0B n = s.page 0xB n layoutNoDomain := by
  have h2 : 2 ≤ n.toNat := by omega
  rw [State.leaf0B, if_neg (ne_zero_of_two_le h2), if_neg (ne_one_of_two_le h2), if_neg (by omega)]

/-- A sub-leaf number is 0, 1 or at least 2. -/
theorem sub_zero_or_one_or_two_le (n : Word32) : n = 0 ∨ n = 1 ∨ 2 ≤ n.toNat := by bv_omega

/-- The layouts of the sub-leaves of leaf 0BH, the invalid ones included (R280, R285). -/
def layouts0B : List Layout := [layout0B 1, layout0B 2, layout0BExtra, layoutNoDomain]

theorem leaf0B_eq_page (s : State) (n : Word32) : ∃ l ∈ layouts0B, s.leaf0B n = s.page 0xB n l := by
  obtain rfl | rfl | h2 := sub_zero_or_one_or_two_le n
  · exact ⟨_, by decide, leaf0B_zero s⟩
  · exact ⟨_, by decide, leaf0B_one s⟩
  · by_cases h : n.toNat < 2 + s.cfg.extraDomains
    · exact ⟨_, by decide, leaf0B_extra h2 h⟩
    · exact ⟨_, by decide, leaf0B_invalid (by omega)⟩

theorem leaf0B_x2apicId (s : State) (n : Word32) : (s.leaf0B n).edx = s.cfg.lp.x2apicId := by
  have htables : ∀ l ∈ layouts0B, l.edx = topologyEdx := by decide
  obtain ⟨l, hl, hpage⟩ := leaf0B_eq_page s n
  rw [hpage, page_edx, htables l hl]
  exact render_live _ .x2apicId _ _

theorem leaf0B_subIndexLow (s : State) (n : Word32) : (s.leaf0B n).ecx.extractLsb' 0 8 = n.extractLsb' 0 8 := by
  have htables : ∀ l ∈ layouts0B, owns l.ecx (live 7 0 "Input ECX sub-leaf index" .subIndexLow) = true := by decide
  obtain ⟨l, hl, hpage⟩ := leaf0B_eq_page s n
  rw [hpage]
  apply BitVec.eq_of_toNat_eq
  calc ((s.page 0xB n l).ecx.extractLsb' 0 8).toNat
      = field (s.page 0xB n l).ecx 7 0 := (field_eq_toNat_extract _ 7 0).symm
    _ = n.toNat % 2 ^ 8 := field_render _ _ _ _ (htables l hl)
    _ = (n.extractLsb' 0 8).toNat := field_eq_toNat_extract n 7 0

/-! ### The domain types of leaf 0BH -/

theorem leaf0B_zero_type (s : State) : field (s.leaf0B 0).ecx 15 8 = 1 :=
  field_render_fixd (name := "Domain Type") (v := 1) (by decide) _ _

theorem leaf0B_one_type (s : State) : field (s.leaf0B 1).ecx 15 8 = 2 :=
  field_render_fixd (name := "Domain Type") (v := 2) (by decide) _ _

theorem leaf0B_extra_type {s : State} {n : Word32} (h2 : 2 ≤ n.toNat) (h : n.toNat < 2 + s.cfg.extraDomains) :
    field (s.leaf0B n).ecx 15 8 = field (s.cfg.raw 0xB n).ecx 15 8 := by
  rw [leaf0B_extra h2 h]
  exact field_render_fld (name := "Domain Type") (by decide) _ _

/-- An invalid sub-leaf is 0 in EAX, EBX and the domain type (R285). -/
theorem leaf0B_invalid_zero {s : State} {n : Word32} (h : 2 + s.cfg.extraDomains ≤ n.toNat) :
    (s.leaf0B n).eax = 0 ∧ (s.leaf0B n).ebx = 0 ∧ field (s.leaf0B n).ecx 15 8 = 0 := by
  rw [leaf0B_invalid h]
  exact ⟨render_wholeZero _ _, render_wholeZero _ _, field_render_fixd (name := "Domain Type") (v := 0) (by decide) _ _⟩

/-- The domain types of the valid sub-leaves of leaf 0BH, sub-leaf 0 first (R280). -/
def domainTypes0B (c : Cfg) : List Nat := [1, 2] ++ c.extraDomainTypes

/-- The types of the valid sub-leaves, as leaf 0BH returns them, stand in the list under their numbers. -/
theorem domainTypes0B_getElem? {s : State} {n : Word32} (h : n.toNat < 2 + s.cfg.extraDomains) :
    (domainTypes0B s.cfg)[n.toNat]? = some (field (s.leaf0B n).ecx 15 8) := by
  obtain rfl | rfl | h2 := sub_zero_or_one_or_two_le n
  · rw [leaf0B_zero_type]; rfl
  · rw [leaf0B_one_type]; rfl
  · have hsub : BitVec.ofNat 32 (n.toNat - 2 + 2) = n := by
      rw [Nat.sub_add_cancel h2, BitVec.ofNat_toNat, BitVec.setWidth_eq]
    have hrange : (List.range s.cfg.extraDomains)[n.toNat - 2]? = some (n.toNat - 2) := List.getElem?_range (by omega)
    rw [leaf0B_extra_type h2 h, domainTypes0B, List.getElem?_append_right h2, Cfg.extraDomainTypes, List.getElem?_map]
    show Option.map _ (List.range s.cfg.extraDomains)[n.toNat - 2]? = _
    rw [hrange, Option.map_some, hsub]

/-- Above Core an admissible processor has only types above 2, each once (R280, R283; log entry 21). -/
theorem extraDomainTypes_admissible {c : Cfg} (hadm : c.admissible = true) (himpl : c.implements 0xB = true) :
    (∀ t ∈ c.extraDomainTypes, 2 < t) ∧ c.extraDomainTypes.Nodup := by
  have hrep := admissible_topologyReported c hadm
  simp only [Cfg.topologyReported, himpl, Bool.not_true, Bool.false_or, Bool.and_eq_true, List.all_eq_true, Nat.ble_eq,
    decide_eq_true_eq] at hrep
  obtain ⟨⟨-, habove⟩, hnodup⟩ := hrep
  exact ⟨habove, hnodup⟩

theorem domainTypes0B_nodup {c : Cfg} (hadm : c.admissible = true) (himpl : c.implements 0xB = true) :
    (domainTypes0B c).Nodup := by
  obtain ⟨habove, hnodup⟩ := extraDomainTypes_admissible hadm himpl
  refine List.Nodup.append (by decide) hnodup fun t hlow hextra => ?_
  have := habove t hextra
  simp only [List.mem_cons, List.not_mem_nil, or_false] at hlow
  omega

theorem leaf0B_extra_type_above {s : State} (hadm : s.cfg.admissible = true) (himpl : s.cfg.implements 0xB = true)
    {n : Word32} (h2 : 2 ≤ n.toNat) (h : n.toNat < 2 + s.cfg.extraDomains) : 2 < field (s.leaf0B n).ecx 15 8 := by
  have hget := domainTypes0B_getElem? h
  rw [domainTypes0B, List.getElem?_append_right h2] at hget
  exact (extraDomainTypes_admissible hadm himpl).1 _ (List.mem_of_getElem? hget)

/-- Two valid sub-leaves of an admissible processor have different types (R280). -/
theorem leaf0B_type_inj {s : State} (hadm : s.cfg.admissible = true) (himpl : s.cfg.implements 0xB = true)
    {m n : Word32} (hm : m.toNat < 2 + s.cfg.extraDomains) (hn : n.toNat < 2 + s.cfg.extraDomains)
    (heq : field (s.leaf0B m).ecx 15 8 = field (s.leaf0B n).ecx 15 8) : m = n := by
  have hget : (domainTypes0B s.cfg)[m.toNat]? = (domainTypes0B s.cfg)[n.toNat]? := by
    rw [domainTypes0B_getElem? hm, domainTypes0B_getElem? hn, heq]
  have hlen : m.toNat < (domainTypes0B s.cfg).length := (List.getElem?_eq_some_iff.1 (domainTypes0B_getElem? hm)).1
  exact BitVec.eq_of_toNat_eq ((List.getElem?_inj hlen (domainTypes0B_nodup hadm himpl)).1 hget)

/-! ### The vectors and the components of leaf 0DH -/

/-- EDX:EAX of sub-leaf 0 is the vector of the bits of XCR0 (R291). -/
theorem page0D_xcr0Mask {s : State} (h : s.Queries 0xD) :
    joinWords (s.page 0xD 0 layout0Ds0).edx (s.page 0xD 0 layout0Ds0).eax = s.cfg.xcr0Mask := by
  have hlow : (s.page 0xD 0 layout0Ds0).eax = s.cfg.xcr0Low := by
    rw [Cfg.xcr0Low, leaf0D_of_queries s h]
    exact renderReg_static _ _ _ _ (by simp [layout0Ds0, flag, fld, fixd, rsvd])
  have hhigh : (s.page 0xD 0 layout0Ds0).edx = s.cfg.xcr0High := by
    rw [Cfg.xcr0High, leaf0D_of_queries s h]
    exact render_fld_whole _ _ _
  rw [hlow, hhigh, Cfg.xcr0Mask]

/-- EDX:ECX of sub-leaf 1 is the vector of the bits of IA32_XSS (R296). -/
theorem page0D_xssMask {s : State} (h : s.Queries 0xD) :
    joinWords (s.page 0xD 1 layout0Ds1).edx (s.page 0xD 1 layout0Ds1).ecx = s.cfg.xssMask := by
  have hlow : (s.page 0xD 1 layout0Ds1).ecx = s.cfg.xssLow := by
    rw [Cfg.xssLow, leaf0D_of_queries s h]
    exact renderReg_static _ _ _ _ (by simp [layout0Ds1, flag, fixd, rsvd])
  have hhigh : (s.page 0xD 1 layout0Ds1).edx = s.cfg.xssHigh := by
    rw [Cfg.xssHigh, leaf0D_of_queries s h]
    exact render_fld_whole _ _ _
  rw [hlow, hhigh, Cfg.xssMask]

/-- From 2 on a sub-leaf is valid exactly if one of the two vectors has its bit (R290). -/
theorem validXsaveSub_eq {c : Cfg} {n : Word32} (h2 : 2 ≤ n.toNat) :
    validXsaveSub c n = (c.xcr0Mask.getLsbD n.toNat || c.xssMask.getLsbD n.toNat) := by
  have hle1 : ¬ n ≤ 1 := by bv_omega
  rw [validXsaveSub, if_neg hle1, Cfg.xcr0Mask, Cfg.xssMask, joinWords_getLsbD, joinWords_getLsbD]
  by_cases h32 : n.toNat < 32
  · have hlt : n < 32 := by bv_omega
    rw [if_pos hlt, if_pos h32, if_pos h32, bit, bit]
  · have hge : ¬ n < 32 := by bv_omega
    rw [if_neg hge, if_neg h32, if_neg h32]
    by_cases h64 : n < 64
    · rw [if_pos h64, bit, bit]
    · have hout : 32 ≤ n.toNat - 32 := by bv_omega
      rw [if_neg h64, BitVec.getLsbD_of_ge _ _ hout, BitVec.getLsbD_of_ge _ _ hout, Bool.or_self]

theorem leaf0D_zero (s : State) : s.leaf0D 0 = s.page 0xD 0 layout0Ds0 := rfl

theorem leaf0D_one (s : State) : s.leaf0D 1 = s.page 0xD 1 layout0Ds1 := rfl

theorem leaf0D_component {s : State} {n : Word32} (h2 : 2 ≤ n.toNat)
    (h : (s.cfg.xcr0Mask.getLsbD n.toNat || s.cfg.xssMask.getLsbD n.toNat) = true) :
    s.leaf0D n = s.page 0xD n layout0DComponent := by
  rw [State.leaf0D, if_neg (ne_zero_of_two_le h2), if_neg (ne_one_of_two_le h2), validXsaveSub_eq h2, if_pos h]

theorem leaf0D_invalid {s : State} {n : Word32} (h2 : 2 ≤ n.toNat)
    (h : (s.cfg.xcr0Mask.getLsbD n.toNat || s.cfg.xssMask.getLsbD n.toNat) = false) : s.leaf0D n = Quad.zero := by
  rw [State.leaf0D, if_neg (ne_zero_of_two_le h2), if_neg (ne_one_of_two_le h2), validXsaveSub_eq h2, h,
    if_neg Bool.false_ne_true]

theorem page0D_xssManaged (s : State) (n : Word32) :
    bit (s.page 0xD n layout0DComponent).ecx 0 = s.cfg.xssMask.getLsbD n.toNat :=
  (bit_render_live (name := "Supported in the IA32_XSS MSR") (d := .xssManaged) (by decide) _ _).trans (wordOfBool_bit _)

/-- The offset is the processor's constant where XCR0 alone manages the component, and 0 elsewhere (R297). -/
theorem page0D_xsaveOffset (s : State) (n : Word32) :
    (s.page 0xD n layout0DComponent).ebx =
      if s.cfg.xcr0Mask.getLsbD n.toNat && !(s.cfg.xssMask.getLsbD n.toNat) then (s.cfg.raw 0xD n).ebx else 0 :=
  render_live _ .xsaveOffset _ _

/-! ### The sizes of leaf 0DH -/

/-- A value capped at a maximum is at most the maximum. -/
theorem capped_le (v most : Word32) : (if v ≤ most then v else most) ≤ most := by
  split
  · assumption
  · exact BitVec.le_refl _

/-- The size for the current XCR0 is at most the size for all supported features (R292). -/
theorem xsaveSize_le (c : Cfg) (xcr0 : Word64) : c.xsaveSize xcr0 ≤ (c.raw 0xD 0).ecx := by
  unfold Cfg.xsaveSize
  split
  · exact BitVec.le_refl _
  · exact capped_le _ _

/-- The two sizes are equal where XCR0 has every supported bit (R292). -/
theorem xsaveSize_all {c : Cfg} {xcr0 : Word64} (h : xcr0 &&& c.xcr0Mask = c.xcr0Mask) :
    c.xsaveSize xcr0 = (c.raw 0xD 0).ecx := if_pos h

theorem page0D_xsaveSize (s : State) : (s.page 0xD 0 layout0Ds0).ebx = s.cfg.xsaveSize s.xcr0 :=
  render_live _ .xsaveSize _ _

theorem page0D_maxSize (s : State) : (s.page 0xD 0 layout0Ds0).ecx = (s.cfg.raw 0xD 0).ecx := render_wholeConst _ _ _

theorem page0D_xsavec (s : State) : bit (s.page 0xD 1 layout0Ds1).eax 1 = bit (s.cfg.raw 0xD 1).eax 1 :=
  bit_render_flag (name := "XSAVEC and the compacted form of XRSTOR") (by decide) _ _

theorem page0D_xsaves (s : State) : bit (s.page 0xD 1 layout0Ds1).eax 3 = bit (s.cfg.raw 0xD 1).eax 3 :=
  bit_render_flag (name := "XSAVES/XRSTORS and IA32_XSS") (by decide) _ _

/-- The size of the compacted area, by the two flags that sub-leaf 1 returns in EAX (R295). -/
theorem page0D_compactSize (s : State) :
    (s.page 0xD 1 layout0Ds1).ebx =
      if bit (s.page 0xD 1 layout0Ds1).eax 3 then s.cfg.compactSize (s.xcr0 ||| s.xss)
      else if bit (s.page 0xD 1 layout0Ds1).eax 1 then s.cfg.compactSize s.xcr0 else 0 := by
  rw [page0D_xsaves, page0D_xsavec]
  exact render_live _ .xsaveCompactSize _ _

/-! ### The sections of leaf 12H -/

/-- What leaf 12H returns for an EPC section, apart from the base and the size (R318). -/
structure IsEpcSection (q : Quad) : Prop where
  type       : field q.eax 3 0 = 1
  eaxZeros   : field q.eax 11 4 = 0
  ecxZeros   : field q.ecx 11 4 = 0
  noProperty : field q.ecx 3 0 = 0 → q.ecx = 0 ∧ q.edx = 0

/-- The layout without a property has zeros in ECX and EDX. -/
theorem isEpcSection_noProperty (s : State) (n : Word32) : IsEpcSection (s.page 0x12 n layout12EpcNoProperty) := by
  have hecx : (s.page 0x12 n layout12EpcNoProperty).ecx = 0 := render_wholeZero _ _
  have hedx : (s.page 0x12 n layout12EpcNoProperty).edx = 0 := render_wholeZero _ _
  exact
    { type := field_render_fixd (name := "Sub-leaf type") (v := 1) (by decide) _ _
      eaxZeros := field_render_zeros (by decide) _ _
      ecxZeros := by rw [hecx]; rfl
      noProperty := fun _ => ⟨hecx, hedx⟩ }

/-- The layout with a property keeps the encoding of the processor's constant, which is not 0. -/
theorem isEpcSection_property {s : State} {n : Word32} (h : field (s.cfg.raw 0x12 n).ecx 3 0 ≠ 0) :
    IsEpcSection (s.page 0x12 n layout12Epc) := by
  have hprop : field (s.page 0x12 n layout12Epc).ecx 3 0 = field (s.cfg.raw 0x12 n).ecx 3 0 :=
    field_render_fld (name := "EPC section property encoding") (by decide) _ _
  exact
    { type := field_render_fixd (name := "Sub-leaf type") (v := 1) (by decide) _ _
      eaxZeros := field_render_zeros (by decide) _ _
      ecxZeros := field_render_zeros (by decide) _ _
      noProperty := fun h0 => absurd (hprop.symm.trans h0) h }

/-- A sub-leaf of leaf 12H from 2 on is zeros, an EPC section, or of a type other than these (R318). -/
theorem leaf12_section_cases (s : State) {n : Word32} (h2 : 2 ≤ n.toNat) :
    s.leaf12 n = Quad.zero ∨ IsEpcSection (s.leaf12 n) ∨
      (field (s.leaf12 n).eax 3 0 ≠ 0 ∧ field (s.leaf12 n).eax 3 0 ≠ 1) := by
  rw [State.leaf12, if_neg (ne_zero_of_two_le h2), if_neg (ne_one_of_two_le h2)]
  by_cases htype0 : field (s.cfg.raw 0x12 n).eax 3 0 = 0
  · exact .inl (if_pos htype0)
  · rw [if_neg htype0]
    by_cases htype1 : field (s.cfg.raw 0x12 n).eax 3 0 = 1
    · rw [if_pos htype1]
      by_cases hprop : field (s.cfg.raw 0x12 n).ecx 3 0 = 0
      · rw [if_pos hprop]; exact .inr (.inl (isEpcSection_noProperty s n))
      · rw [if_neg hprop]; exact .inr (.inl (isEpcSection_property hprop))
    · rw [if_neg htype1]; exact .inr (.inr ⟨htype0, htype1⟩)

theorem field_lt (v : Word32) (hi lo : Nat) : field v hi lo < 2 ^ (hi - lo + 1) := Nat.mod_lt _ (Nat.two_pow_pos _)

/-- A number put together from its bits 51:32 and 31:12 is a multiple of 4096 below 2^52 (R318). -/
theorem pageBits_bounds (high low : Word32) :
    (field high 19 0 * 2 ^ 32 + field low 31 12 * 2 ^ 12) % 4096 = 0 ∧
      field high 19 0 * 2 ^ 32 + field low 31 12 * 2 ^ 12 < 2 ^ 52 := by
  have hhigh : field high 19 0 < 2 ^ 20 := field_lt high 19 0
  have hlow : field low 31 12 < 2 ^ 20 := field_lt low 31 12
  omega

theorem epcBase_bounds (q : Quad) : epcBase q % 4096 = 0 ∧ epcBase q < 2 ^ 52 := pageBits_bounds q.ebx q.eax

theorem epcSize_bounds (q : Quad) : epcSize q % 4096 = 0 ∧ epcSize q < 2 ^ 52 := pageBits_bounds q.edx q.ecx

end Sys2Proof.Proofs
end

section
/-! PROOFS. The statements about leaves 0BH, 0DH and 12H: topology sub-leaves, the XSAVE components and sizes, and EPC
sections. -/

namespace Sys2Proof.Proofs

open Sys2Proof.Machine Sys2Proof.Laws

/-- Settles O33: all layouts of leaf 0BH have one table for EDX. -/
theorem leafElevenX2ApicId : Obligations.LeafElevenX2ApicId := fun s h =>
  ⟨_, returns_of_queries_sub s 0xB h rfl, leaf0B_x2apicId s _⟩

/-- Settles O34: the domain types of the valid sub-leaves are a list without repetition. -/
theorem leafElevenSubleaves : Obligations.LeafElevenSubleaves := by
  intro s h
  have hret : s.Returns (s.leaf0B s.subleafOperand) := returns_of_queries_sub s 0xB h rfl
  refine ⟨_, hret, leaf0B_subIndexLow s _, leaf0B_x2apicId s _, fun h0 => ?logical, fun h1 => ?core,
    fun hadm hvalid => ⟨fun h2 => ?above, fun n hne hn => ?different⟩, leaf0B_invalid_zero⟩
  case logical => rw [h0, leaf0B_zero_type]
  case core => rw [h1, leaf0B_one_type]
  case above => exact leaf0B_extra_type_above hadm (implements_of_queries s 0xB h rfl) h2 hvalid
  case different =>
    have hretn : (s.withSub n).Returns (s.leaf0B n) := returns_withSub s 0xB n h rfl
    exact ⟨_, hretn, mt (leaf0B_type_inj hadm (implements_of_queries s 0xB h rfl) hn hvalid) hne⟩

/-- Settles O36: the two vectors are the masks of XCR0 and IA32_XSS, which decide both validity and the offset. -/
theorem leafXsaveSubleaves : Obligations.LeafXsaveSubleaves := by
  intro s h
  have hret : ∀ n, (s.withSub n).Returns (s.leaf0D n) := fun n => returns_withSub s 0xD n h rfl
  refine ⟨_, _, hret 0, hret 1, fun n hn => ?_⟩
  have h2 : 2 ≤ n.toNat := hn
  rw [leaf0D_zero, leaf0D_one, page0D_xcr0Mask h, page0D_xssMask h]
  refine ⟨fun hx hs => ?invalid, fun hvalid => ?valid⟩
  case invalid =>
    have hzero : s.leaf0D n = Quad.zero := leaf0D_invalid h2 (by rw [hx, hs, Bool.or_self])
    exact hzero ▸ hret n
  case valid =>
    have hpage : s.leaf0D n = s.page 0xD n layout0DComponent := leaf0D_component h2 (by rwa [Bool.or_eq_true])
    refine ⟨_, hpage ▸ hret n, render_wholeConst _ _ _, page0D_xssManaged s n, fun hbit => ?_, fun hbit => ?_⟩
    · rw [page0D_xssManaged] at hbit
      rw [page0D_xsaveOffset, hbit, Bool.not_true, Bool.and_false, if_neg Bool.false_ne_true]
    · rw [page0D_xssManaged] at hbit
      have hx : s.cfg.xcr0Mask.getLsbD n.toNat = true := hvalid.resolve_right (by simp [hbit])
      rw [page0D_xsaveOffset, hx, hbit]
      rfl

/-- Settles O37: the model's size function obeys both constraints, with the vector that sub-leaf 0 returns. -/
theorem xsaveSizeWithinMaximum : Obligations.XsaveSizeWithinMaximum := by
  intro s h
  have hret : (s.withSub 0).Returns (s.page 0xD 0 layout0Ds0) := returns_withSub s 0xD 0 h rfl
  refine ⟨_, hret, ?_, fun hall => ?_⟩
  · rw [page0D_xsaveSize, page0D_maxSize]
    exact xsaveSize_le _ _
  · rw [page0D_xcr0Mask h] at hall
    rw [page0D_xsaveSize, page0D_maxSize, xsaveSize_all hall]

/-- Settles O38: EAX[3] is tested first, then EAX[1]. -/
theorem xsaveCompactSizeCases : Obligations.XsaveCompactSizeCases := by
  intro s h
  have hret : (s.withSub 1).Returns (s.page 0xD 1 layout0Ds1) := returns_withSub s 0xD 1 h rfl
  refine ⟨_, hret, fun h3 => ?both, fun h3 h1 => ?xcr0, fun h3 h1 => ?neither⟩
  case both => rw [page0D_compactSize, if_pos h3]
  case xcr0 => rw [page0D_compactSize, if_neg (Bool.eq_false_iff.1 h3), if_pos h1]
  case neither => rw [page0D_compactSize, if_neg (Bool.eq_false_iff.1 h3), if_neg (Bool.eq_false_iff.1 h1)]

/-- Settles O39: base and size are in range by their bits, and the rest is what the three kinds of sub-leaves return. -/
theorem epcSections : Obligations.EpcSections := by
  intro s h h2
  have hret : s.Returns (s.leaf12 s.subleafOperand) := returns_of_queries_sub s 0x12 h rfl
  refine ⟨_, hret, ?_⟩
  obtain ⟨hbase, hbaseLt⟩ := epcBase_bounds (s.leaf12 s.subleafOperand)
  obtain ⟨hsize, hsizeLt⟩ := epcSize_bounds (s.leaf12 s.subleafOperand)
  obtain hzero | hepc | ⟨hne0, hne1⟩ := leaf12_section_cases s (n := s.subleafOperand) h2
  · exact ⟨fun _ => hzero, fun h1 => absurd (hzero ▸ h1) (by decide)⟩
  · exact ⟨fun h0 => absurd (hepc.type.symm.trans h0) (by decide),
      fun _ => ⟨hepc.eaxZeros, hepc.ecxZeros, hbase, hbaseLt, hsize, hsizeLt, hepc.noProperty⟩⟩
  · exact ⟨fun h0 => absurd h0 hne0, fun h1 => absurd h1 hne1⟩

end Sys2Proof.Proofs
end

section
/-! SUPPORT. For the statements about leaves 17H, 18H, 1BH, 1DH, 1EH, 1FH and 23H: the branches of their sub-leaf rules, what
an admissible processor says of their constants, and the domain types of leaf 1FH. -/

namespace Sys2Proof.Proofs

open Sys2Proof.Machine Sys2Proof.Laws

/-! ### The sub-leaves of leaf 17H -/

theorem leaf17_maxIndex (s : State) : (s.leaf17 0).eax = (s.cfg.raw 0x17 0).eax := render_wholeConst _ _ _

/-- Above the three brand sub-leaves, the maximum index decides (R340, R343). -/
theorem leaf17_above {s : State} {n : Word32} (h3 : 3 < n) (h : (s.cfg.raw 0x17 0).eax < n) : s.leaf17 n = Quad.zero := by
  have hne : n ≠ 0 := by rintro rfl; exact absurd h3 (by decide)
  rw [State.leaf17, if_neg hne, if_neg (BitVec.not_le.2 h3), if_pos h]

/-! ### The sub-leaves of leaf 18H -/

/-- A sub-leaf of leaf 18H that describes a translation structure: not above the maximum, and of a type other than 0
(R345). -/
def IsTlbSub (c : Cfg) (n : Word32) : Prop := n ≤ c.maxTlbSub ∧ field (c.raw 0x18 n).edx 4 0 ≠ 0

/-- The layouts of the sub-leaves of leaf 18H that describe a structure (R346, R347). -/
def layouts18 : List Layout := [layout18s0, layout18]

theorem leaf18_eq_page {s : State} {n : Word32} (h : IsTlbSub s.cfg n) :
    ∃ l ∈ layouts18, s.leaf18 n = s.page 0x18 n l := by
  obtain ⟨hmax, htype⟩ := h
  rw [State.leaf18, if_neg (BitVec.not_lt.2 hmax), if_neg htype]
  by_cases hn : n = 0
  · exact ⟨layout18s0, by decide, by rw [if_pos hn, hn]⟩
  · exact ⟨layout18, by decide, if_neg hn⟩

theorem leaf18_above {s : State} {n : Word32} (h : s.cfg.maxTlbSub < n) : s.leaf18 n = Quad.zero := if_pos h

theorem leaf18_untyped {s : State} {n : Word32} (hmax : n ≤ s.cfg.maxTlbSub)
    (htype : field (s.cfg.raw 0x18 n).edx 4 0 = 0) :
    s.leaf18 n = if n = 0 then { Quad.zero with eax := s.cfg.maxTlbSub } else Quad.zero := by
  rw [State.leaf18, if_neg (BitVec.not_lt.2 hmax), if_pos htype]

/-- Sub-leaf 0 returns the maximum in EAX, null or not (R345; log entry 24). -/
theorem leaf18_zero_eax (s : State) : (s.leaf18 0).eax = s.cfg.maxTlbSub := by
  have hmax : 0 ≤ s.cfg.maxTlbSub := Nat.zero_le _
  by_cases htype : field (s.cfg.raw 0x18 0).edx 4 0 = 0
  · rw [leaf18_untyped hmax htype, if_pos rfl]
  · have hkeeps : s.cfg.maxTlbSub = (s.cfg.raw 0x18 0).eax := if_neg fun hnull => htype hnull.1
    rw [State.leaf18, if_neg (BitVec.not_lt.2 hmax), if_neg htype, if_pos rfl, hkeeps]
    exact render_wholeConst _ _ _

/-- A sub-leaf that describes no structure returns zeros, apart from EAX of sub-leaf 0 (R345). -/
theorem leaf18_null {s : State} {n : Word32} (h : ¬ IsTlbSub s.cfg n) :
    (s.leaf18 n).edx = 0 ∧ (n ≠ 0 → s.leaf18 n = Quad.zero) := by
  by_cases hmax : n ≤ s.cfg.maxTlbSub
  · have htype : field (s.cfg.raw 0x18 n).edx 4 0 = 0 := not_not.1 fun htype => h ⟨hmax, htype⟩
    rw [leaf18_untyped hmax htype]
    by_cases hn : n = 0
    · rw [if_pos hn]; exact ⟨rfl, fun hne => absurd hn hne⟩
    · rw [if_neg hn]; exact ⟨rfl, fun _ => rfl⟩
  · rw [leaf18_above (BitVec.not_le.1 hmax)]
    exact ⟨rfl, fun _ => rfl⟩

/-- The type and the level of a structure are the processor's constants (R347). -/
theorem leaf18_type_level {s : State} {n : Word32} (h : IsTlbSub s.cfg n) :
    field (s.leaf18 n).edx 4 0 = field (s.cfg.raw 0x18 n).edx 4 0 ∧
      field (s.leaf18 n).edx 7 5 = field (s.cfg.raw 0x18 n).edx 7 5 := by
  have htables : ∀ l ∈ layouts18, l.edx = layout18Edx := by decide
  obtain ⟨l, hl, hpage⟩ := leaf18_eq_page h
  rw [hpage, page_edx, htables l hl]
  exact ⟨field_render_fld (name := "Translation cache type field") (by decide) _ _,
    field_render_fld (name := "Translation cache level") (by decide) _ _⟩

/-- The constants of a structure of an admissible processor have a level (R347). -/
theorem raw18_levelled {c : Cfg} (hadm : c.admissible = true) (himpl : c.implements 0x18 = true) {n : Word32}
    (h : IsTlbSub c n) : field (c.raw 0x18 n).edx 7 5 ≠ 0 := by
  obtain ⟨hmax, htype⟩ := h
  have hall := admissible_tlbsLevelled c hadm
  simp only [Cfg.tlbsLevelled, himpl, Bool.not_true, Bool.false_or, List.all_eq_true, List.mem_range, Bool.or_eq_true,
    beq_iff_eq, bne_iff_ne] at hall
  have hsub := hall n.toNat (Nat.lt_succ_of_le hmax)
  rw [BitVec.ofNat_toNat, BitVec.setWidth_eq] at hsub
  exact hsub.resolve_left htype

/-! ### The sub-leaves of leaf 1BH -/

theorem leaf1B_below {s : State} {n : Word32} (h : n.toNat < s.cfg.pconfigCount) : s.leaf1B n = s.page 0x1B n layout1B :=
  if_pos h

theorem leaf1B_above {s : State} {n : Word32} (h : s.cfg.pconfigCount ≤ n.toNat) : s.leaf1B n = Quad.zero :=
  if_neg (Nat.not_lt.2 h)

theorem page1B_type (s : State) (n : Word32) : (s.page 0x1B n layout1B).eax = (s.cfg.raw 0x1B n).eax :=
  render_wholeConst _ _ _

/-- The constants of a valid sub-leaf of an admissible processor have a type (R365). -/
theorem raw1B_typed {c : Cfg} (hadm : c.admissible = true) (himpl : c.implements 0x1B = true) {n : Word32}
    (hn : n.toNat < c.pconfigCount) : (c.raw 0x1B n).eax ≠ 0 := by
  have hall := admissible_pconfigTyped c hadm
  simp only [Cfg.pconfigTyped, himpl, Bool.not_true, Bool.false_or, List.all_eq_true, List.mem_range, bne_iff_ne] at hall
  have htype := hall n.toNat hn
  rwa [BitVec.ofNat_toNat, BitVec.setWidth_eq] at htype

/-! ### The fixed values of leaves 1DH and 1EH -/

theorem page1D_zero (s : State) : s.page 0x1D 0 layout1Ds0 = { eax := 1, ebx := 0, ecx := 0, edx := 0 } := by
  simp [State.page, Layout.render, layout1Ds0]

/-- What leaf 1DH returns for tile palette 1 (R371). -/
structure IsTilePalette1 (q : Quad) : Prop where
  totalTileBytes : field q.eax 15 0 = 8192
  bytesPerTile   : field q.eax 31 16 = 1024
  bytesPerRow    : field q.ebx 15 0 = 64
  maxNames       : field q.ebx 31 16 = 8
  maxRows        : field q.ecx 15 0 = 16
  ecxZeros       : field q.ecx 31 16 = 0
  edxZero        : q.edx = 0

theorem page1D_isTilePalette1 (s : State) : IsTilePalette1 (s.page 0x1D 1 layout1Ds1) where
  totalTileBytes := field_render_fixd (name := "total_tile_bytes") (v := 8192) (by decide) _ _
  bytesPerTile := field_render_fixd (name := "bytes_per_tile") (v := 1024) (by decide) _ _
  bytesPerRow := field_render_fixd (name := "bytes_per_row") (v := 64) (by decide) _ _
  maxNames := field_render_fixd (name := "max_names") (v := 8) (by decide) _ _
  maxRows := field_render_fixd (name := "max_rows") (v := 16) (by decide) _ _
  ecxZeros := field_render_zeros (by decide) _ _
  edxZero := render_wholeZero _ _

/-- What leaf 1EH returns for the TMUL unit (R373). -/
structure IsTmul (q : Quad) : Prop where
  eaxZero  : q.eax = 0
  maxK     : field q.ebx 7 0 = 16
  maxN     : field q.ebx 23 8 = 64
  ebxZeros : field q.ebx 31 24 = 0
  ecxZero  : q.ecx = 0
  edxZero  : q.edx = 0

theorem page1E_isTmul (s : State) : IsTmul (s.page 0x1E 0 layout1Es0) where
  eaxZero := render_wholeZero _ _
  maxK := field_render_fixd (name := "tmul_maxk") (v := 16) (by decide) _ _
  maxN := field_render_fixd (name := "tmul_maxn") (v := 64) (by decide) _ _
  ebxZeros := field_render_zeros (by decide) _ _
  ecxZero := render_wholeZero _ _
  edxZero := render_wholeZero _ _

/-! ### The sub-leaves of leaf 1FH -/

theorem leaf1F_valid {s : State} {n : Word32} (h : n.toNat < s.cfg.domainTypes.length) :
    s.leaf1F n = s.page 0x1F n layout1F := if_pos h

theorem leaf1F_invalid {s : State} {n : Word32} (h : s.cfg.domainTypes.length ≤ n.toNat) :
    s.leaf1F n = s.page 0x1F n layoutNoDomain := if_neg (Nat.not_lt.2 h)

/-- The layouts of the sub-leaves of leaf 1FH, the invalid ones included (R375, R380). -/
def layouts1F : List Layout := [layout1F, layoutNoDomain]

theorem leaf1F_eq_page (s : State) (n : Word32) : ∃ l ∈ layouts1F, s.leaf1F n = s.page 0x1F n l := by
  by_cases h : n.toNat < s.cfg.domainTypes.length
  · exact ⟨_, by decide, leaf1F_valid h⟩
  · exact ⟨_, by decide, leaf1F_invalid (Nat.not_lt.1 h)⟩

theorem leaf1F_x2apicId (s : State) (n : Word32) : (s.leaf1F n).edx = s.cfg.lp.x2apicId := by
  have htables : ∀ l ∈ layouts1F, l.edx = topologyEdx := by decide
  obtain ⟨l, hl, hpage⟩ := leaf1F_eq_page s n
  rw [hpage, page_edx, htables l hl]
  exact render_live _ .x2apicId _ _

theorem leaf1F_subIndexLow (s : State) (n : Word32) : (s.leaf1F n).ecx.extractLsb' 0 8 = n.extractLsb' 0 8 := by
  have htables : ∀ l ∈ layouts1F, owns l.ecx (live 7 0 "Input ECX sub-leaf index" .subIndexLow) = true := by decide
  obtain ⟨l, hl, hpage⟩ := leaf1F_eq_page s n
  have hfield : field (s.leaf1F n).ecx 7 0 = field n 7 0 := hpage ▸ field_render _ _ _ _ (htables l hl)
  apply BitVec.eq_of_toNat_eq
  rwa [field_eq_toNat_extract, field_eq_toNat_extract] at hfield

/-- An invalid sub-leaf is 0 in EAX, EBX and the domain type (R380). -/
theorem leaf1F_invalid_zero {s : State} {n : Word32} (h : s.cfg.domainTypes.length ≤ n.toNat) :
    (s.leaf1F n).eax = 0 ∧ (s.leaf1F n).ebx = 0 ∧ field (s.leaf1F n).ecx 15 8 = 0 := by
  rw [leaf1F_invalid h]
  exact ⟨render_wholeZero _ _, render_wholeZero _ _, field_render_fixd (name := "Domain Type") (v := 0) (by decide) _ _⟩

/-! ### The domain types of leaf 1FH -/

theorem ite_sublist_singleton (b : Bool) (t : Nat) : (if b then [t] else []).Sublist [t] := by
  cases b
  · exact List.nil_sublist _
  · exact List.Sublist.refl _

/-- The types a processor enumerates are some of the six of the hierarchy, in its order (R378; log entry 22). -/
theorem domainTypes_sublist (c : Cfg) : c.domainTypes.Sublist [1, 2, 3, 4, 5, 6] :=
  ((((List.Sublist.refl [1, 2]).append (ite_sublist_singleton _ 3)).append (ite_sublist_singleton _ 4)).append
    (ite_sublist_singleton _ 5)).append (ite_sublist_singleton _ 6)

/-- Logical Processor and Core are always the first two (R375). -/
theorem domainTypes_start (c : Cfg) : [1, 2] <+: c.domainTypes := by
  simp only [Cfg.domainTypes, List.append_assoc]
  exact ⟨_, rfl⟩

theorem two_le_domainTypes_length (c : Cfg) : 2 ≤ c.domainTypes.length := (domainTypes_start c).length_le

theorem domainTypes_length_le (c : Cfg) : c.domainTypes.length ≤ 6 := (domainTypes_sublist c).length_le

theorem domainTypes_bounds {c : Cfg} {t : Nat} (h : t ∈ c.domainTypes) : 1 ≤ t ∧ t ≤ 6 := by
  have hall : ∀ t ∈ [1, 2, 3, 4, 5, 6], 1 ≤ t ∧ t ≤ 6 := by decide
  exact hall t ((domainTypes_sublist c).subset h)

theorem domainTypes_rising (c : Cfg) : c.domainTypes.Pairwise (· < ·) :=
  List.Pairwise.sublist (domainTypes_sublist c) (by decide)

/-- The type that a valid sub-leaf returns stands in the list under the sub-leaf's number. -/
theorem leaf1F_type {s : State} {n : Word32} (h : n.toNat < s.cfg.domainTypes.length) :
    field (s.leaf1F n).ecx 15 8 = s.cfg.domainTypes[n.toNat] := by
  have hlive : field (s.leaf1F n).ecx 15 8 = (BitVec.ofNat 32 (s.cfg.domainTypes.getD n.toNat 0)).toNat % 2 ^ 8 := by
    rw [leaf1F_valid h]
    exact field_render _ (live 15 8 "Domain Type" .domainType) _ _ (by decide)
  obtain ⟨-, hle⟩ := domainTypes_bounds (List.getElem_mem h)
  rw [hlive, List.getD_eq_getElem _ _ h, BitVec.toNat_ofNat]
  omega

theorem leaf1F_zero_type (s : State) : field (s.leaf1F 0).ecx 15 8 = 1 := by
  have hlen : (0 : Word32).toNat < s.cfg.domainTypes.length := lt_of_lt_of_le (by decide) (two_le_domainTypes_length s.cfg)
  rw [leaf1F_type hlen]
  exact ((domainTypes_start s.cfg).getElem (i := 0) (by decide)).symm

theorem leaf1F_one_type (s : State) : field (s.leaf1F 1).ecx 15 8 = 2 := by
  have hlen : (1 : Word32).toNat < s.cfg.domainTypes.length := lt_of_lt_of_le (by decide) (two_le_domainTypes_length s.cfg)
  rw [leaf1F_type hlen]
  exact ((domainTypes_start s.cfg).getElem (i := 1) (by decide)).symm

theorem leaf1F_type_bounds {s : State} {n : Word32} (h : n.toNat < s.cfg.domainTypes.length) :
    1 ≤ field (s.leaf1F n).ecx 15 8 ∧ field (s.leaf1F n).ecx 15 8 ≤ 6 := by
  rw [leaf1F_type h]
  exact domainTypes_bounds (List.getElem_mem h)

/-- The type rises from one valid sub-leaf to the next (R378). -/
theorem leaf1F_type_lt_succ {s : State} {n : Word32} (h : n.toNat + 1 < s.cfg.domainTypes.length) :
    field (s.leaf1F n).ecx 15 8 < field (s.leaf1F (n + 1)).ecx 15 8 := by
  have hlen := domainTypes_length_le s.cfg
  have hsucc : (n + 1).toNat = n.toNat + 1 := by bv_omega
  have hlt : n.toNat < (n + 1).toNat := by omega
  rw [leaf1F_type (Nat.lt_of_succ_lt h), leaf1F_type (hsucc ▸ h)]
  exact List.pairwise_iff_getElem.1 (domainTypes_rising s.cfg) _ _ _ _ hlt

/-! ### The sub-leaves of leaf 23H -/

theorem leaf23_bitmap (s : State) : (s.leaf23 0).eax = (s.cfg.raw 0x23 0).eax := render_wholeConst _ _ _

/-- A sub-leaf whose bit of the bitmap is clear is not supported (R395). -/
theorem leaf23_unsupported {s : State} {n : Word32} (hn : n ≠ 0) (h : bit (s.cfg.raw 0x23 0).eax n.toNat = false) :
    s.leaf23 n = Quad.zero := by
  have hbit : ¬ (n < 32 ∧ bit (s.cfg.raw 0x23 0).eax n.toNat = true) := fun hset => Bool.eq_false_iff.1 h hset.2
  rw [State.leaf23, if_neg hn, if_neg hbit]

end Sys2Proof.Proofs
end

section
/-! PROOFS. The statements about leaves 17H, 18H, 1BH, 1DH, 1EH, 1FH and 23H: valid and invalid sub-leaves, the domain types
of leaf 1FH, and the fixed values of the tile leaves. -/

namespace Sys2Proof.Proofs

open Sys2Proof.Machine Sys2Proof.Laws

/-- Settles O35: the valid sub-leaves are counted by the list of domain types, which rises from 1, 2 to at most 6. -/
theorem leafV2TopologySubleaves : Obligations.LeafV2TopologySubleaves := by
  intro s h
  have hret : ∀ n, (s.withSub n).Returns (s.leaf1F n) := fun n => returns_withSub s 0x1F n h rfl
  refine ⟨s.cfg.domainTypes.length, two_le_domainTypes_length _, domainTypes_length_le _, fun n => ⟨_, hret n,
    leaf1F_subIndexLow s n, leaf1F_x2apicId s n, fun h0 => ?logical, fun h1 => ?core, leaf1F_type_bounds,
    fun hnext => ⟨_, hret (n + 1), leaf1F_type_lt_succ hnext⟩, leaf1F_invalid_zero⟩⟩
  case logical => rw [h0, leaf1F_zero_type]
  case core => rw [h1, leaf1F_one_type]

/-- Settles O40: a sub-leaf above a maximum index of at least 3 is above the brand sub-leaves too. -/
theorem socLeafAboveMaximum : Obligations.SocLeafAboveMaximum := by
  intro s h
  have hret : ∀ n, (s.withSub n).Returns (s.leaf17 n) := fun n => returns_withSub s 0x17 n h rfl
  refine ⟨_, hret 0, ?_⟩
  rw [leaf17_maxIndex]
  intro h3 n hn
  have hzero : s.leaf17 n = Quad.zero := leaf17_above (Nat.lt_of_le_of_lt h3 hn) hn
  exact hzero ▸ hret n

/-- Settles O41: a sub-leaf describes a structure, with the type and level of the constants, or is null. -/
theorem tlbLeafInvalidSubleaves : Obligations.TlbLeafInvalidSubleaves := by
  intro s h
  have hret : ∀ n, (s.withSub n).Returns (s.leaf18 n) := fun n => returns_withSub s 0x18 n h rfl
  refine ⟨_, hret 0, fun n => ⟨fun habove => ?above, _, hret n, ?typed⟩⟩
  case above =>
    rw [leaf18_zero_eax] at habove
    exact leaf18_above habove ▸ hret n
  case typed =>
    by_cases hsub : IsTlbSub s.cfg n
    · obtain ⟨htype, hlevel⟩ := leaf18_type_level hsub
      rw [htype, hlevel]
      exact ⟨fun _ h0 => absurd h0 hsub.2,
        fun hadm _ => raw18_levelled hadm (implements_of_queries s 0x18 h rfl) hsub⟩
    · obtain ⟨hedx, hzero⟩ := leaf18_null hsub
      rw [hedx]
      exact ⟨fun hn _ => hzero hn, fun _ hne => absurd rfl hne⟩

/-- Settles O43, on either side of the number of valid sub-leaves. -/
theorem pconfigSubleaves : Obligations.PconfigSubleaves := by
  intro s h hadm
  have hret : s.Returns (s.leaf1B s.subleafOperand) := returns_of_queries_sub s 0x1B h rfl
  refine ⟨_, hret, fun hlt => ?_, leaf1B_above⟩
  rw [leaf1B_below hlt, page1B_type]
  exact raw1B_typed hadm (implements_of_queries s 0x1B h rfl) hlt

/-- Settles O44: the three layouts fix every field. -/
theorem tileAndTmulConstants : Obligations.TileAndTmulConstants := by
  refine ⟨fun s h => ⟨fun h0 => ?tile, fun h1 => ?palette1⟩, fun s h h0 => ?tmul⟩
  case tile => exact page1D_zero s ▸ returns_page_of_sub_zero h rfl h0 rfl
  case palette1 =>
    have hret : s.Returns (s.leaf1D s.subleafOperand) := returns_of_queries_sub s 0x1D h rfl
    rw [h1] at hret
    have hpal := page1D_isTilePalette1 s
    exact ⟨_, hret, hpal.totalTileBytes, hpal.bytesPerTile, hpal.bytesPerRow, hpal.maxNames, hpal.maxRows, hpal.ecxZeros,
      hpal.edxZero⟩
  case tmul =>
    have hret : s.Returns (s.page 0x1E 0 layout1Es0) := returns_page_of_sub_zero h rfl h0 rfl
    have htmul := page1E_isTmul s
    exact ⟨_, hret, htmul.eaxZero, htmul.maxK, htmul.maxN, htmul.ebxZeros, htmul.ecxZero, htmul.edxZero⟩

/-- Settles O45: sub-leaf 0 returns the bitmap that decides. -/
theorem perfmonExtUnsupportedSubleaves : Obligations.PerfmonExtUnsupportedSubleaves := by
  intro s h
  have hret : ∀ n, (s.withSub n).Returns (s.leaf23 n) := fun n => returns_withSub s 0x23 n h rfl
  refine ⟨_, hret 0, fun n hn hclear => ?_⟩
  rw [leaf23_bitmap] at hclear
  exact leaf23_unsupported hn hclear ▸ hret n

end Sys2Proof.Proofs
end

section
/-! SUPPORT. For the statements about leaves 80000005H to 80000008H: registers that are zero but for one bit, and what the
layouts of the leaves fix. -/

namespace Sys2Proof.Proofs

open Sys2Proof.Machine Sys2Proof.Laws

/-! ### Registers zero but for one bit -/

/-- A field that reads 0 has no bit set. -/
theorem bit_eq_false_of_field {v : Word32} {hi lo i : Nat} (h : field v hi lo = 0) (hlo : lo ≤ i) (hhi : i ≤ hi) :
    bit v i = false := by
  have hfield := field_testBit v hi lo (i - lo)
  have hin : i - lo < hi - lo + 1 := by omega
  rw [h, Nat.zero_testBit, Nat.add_sub_cancel' hlo, decide_eq_true hin, Bool.true_and] at hfield
  exact hfield.symm

/-- A register in which only bit `n` can be set has one of two values. -/
theorem eq_zero_or_twoPow {v : Word32} {n : Nat} (h : ∀ i, i ≠ n → bit v i = false) : v = 0 ∨ v = BitVec.twoPow 32 n := by
  cases hn : bit v n with
  | false =>
    refine .inl (BitVec.eq_of_getLsbD_eq fun i _ => Eq.trans ?_ BitVec.getLsbD_zero.symm)
    by_cases hi : i = n
    · exact hi ▸ hn
    · exact h i hi
  | true =>
    refine .inr (BitVec.eq_of_getLsbD_eq fun i _ => ?_)
    rw [BitVec.getLsbD_twoPow, decide_eq_true (BitVec.lt_of_getLsbD hn), Bool.true_and]
    by_cases hi : i = n
    · rw [hi, decide_eq_true rfl]
      exact hn
    · rw [decide_eq_false (Ne.symm hi)]
      exact h i hi

/-! ### The layouts of the leaves -/

theorem pageE5_eq_zero (s : State) : s.page 0x80000005 0 layoutE5 = Quad.zero := by
  simp [State.page, Layout.render, layoutE5, Quad.zero]

/-- EDX[8] is the one field of leaf 80000007H that is not "Reserved = 0" (R432). -/
theorem pageE7_edx (s : State) :
    (s.page 0x80000007 0 layoutE7).edx = 0 ∨ (s.page 0x80000007 0 layoutE7).edx = 0x100 := by
  have hlow : field (s.page 0x80000007 0 layoutE7).edx 7 0 = 0 := field_render_zeros (by decide) _ _
  have hhigh : field (s.page 0x80000007 0 layoutE7).edx 31 9 = 0 := field_render_zeros (by decide) _ _
  refine eq_zero_or_twoPow (n := 8) fun i hi => ?_
  rcases Nat.lt_or_gt_of_ne hi with hbelow | habove
  · exact bit_eq_false_of_field hlow (Nat.zero_le i) (Nat.le_of_lt_succ hbelow)
  · by_cases hin : i ≤ 31
    · exact bit_eq_false_of_field hhigh habove hin
    · exact bit_ge _ i (Nat.lt_of_not_le hin)

theorem pageE8_physicalBits (s : State) :
    field (s.page 0x80000008 0 layoutE8).eax 7 0 = field (s.cfg.raw 0x80000008 0).eax 7 0 :=
  field_render_fld (name := "Physical Address Bits") (by decide) _ _

theorem pageE8_linearBits (s : State) :
    field (s.page 0x80000008 0 layoutE8).eax 15 8 = field (s.cfg.raw 0x80000008 0).eax 15 8 :=
  field_render_fld (name := "Linear Address Bits") (by decide) _ _

/-- An Intel processor enumerates the guest physical address bits as 0 (R433). -/
theorem pageE8_guestBits (s : State) : field (s.page 0x80000008 0 layoutE8).eax 23 16 = 0 :=
  field_render_fixd (name := "Guest Physical Address Bits") (v := 0) (by decide) _ _

theorem pageE8_wbnoinvd (s : State) :
    bit (s.page 0x80000008 0 layoutE8).ebx 9 = bit (s.cfg.raw 0x80000008 0).ebx 9 :=
  bit_render_flag (name := "WBNOINVD") (by decide) _ _

end Sys2Proof.Proofs
end

section
/-! PROOFS. The statements about leaves 80000005H to 80000008H: the "Reserved = 0" registers and fields, and the constants
that the address-size leaf passes on. -/

namespace Sys2Proof.Proofs

open Sys2Proof.Machine Sys2Proof.Laws

/-- Settles O50: the layout of a supported leaf is zero throughout, and an unsupported leaf returns zeros anyway. -/
theorem leafExtFiveZero : Obligations.LeafExtFiveZero := by
  intro s h
  cases hp : s.cfg.supports 0x80000005 with
  | true => exact pageE5_eq_zero s ▸ returns_page s 0x80000005 layoutE5 ⟨h, hp⟩ fun _ => rfl
  | false => exact returns_of_unsupported s 0x80000005 h hp

/-- Settles O51: whole zero registers in both layouts, and the one flag of leaf 80000007H. -/
theorem leafExtSixSevenReserved : Obligations.LeafExtSixSevenReserved := by
  refine ⟨fun s h => ?cacheInformation, fun s h => ?invariantTsc⟩
  case cacheInformation =>
    exact ⟨_, returns_page s 0x80000006 layoutE6 h fun _ => rfl, render_wholeZero _ _, render_wholeZero _ _,
      render_wholeZero _ _⟩
  case invariantTsc =>
    exact ⟨_, returns_page s 0x80000007 layoutE7 h fun _ => rfl, render_wholeZero _ _, render_wholeZero _ _,
      render_wholeZero _ _, pageE7_edx s⟩

/-- Settles O52: the fields of the layout, one by one. -/
theorem leafExtEightReserved : Obligations.LeafExtEightReserved := by
  intro s h
  exact ⟨_, returns_page s 0x80000008 layoutE8 h fun _ => rfl, pageE8_guestBits s, field_render_zeros (by decide) _ _,
    field_render_zeros (by decide) _ _, field_render_zeros (by decide) _ _, render_wholeZero _ _, render_wholeZero _ _,
    pageE8_physicalBits s, pageE8_linearBits s, pageE8_wbnoinvd s⟩

end Sys2Proof.Proofs
end

section
/-! PROOFS. The statement about the outcomes of `CPUID` without LOCK (spec/60_exceptions.md). -/

namespace Sys2Proof.Proofs

open Sys2Proof.Machine Sys2Proof.Laws

/-- An execution completes or faults; only a step refuses. -/
theorem exec_ne_refused (i : Instr) (s : State) (r : Refusal) : exec i s ≠ .refused r := by
  intro h
  cases i with
  | cpuid =>
    cases hs : s.cfg.cpuidSupported with
    | true => cases (exec_cpuid_next s hs).symm.trans h
    | false =>
      obtain ⟨⟨left, hfault⟩, -⟩ := unsupportedProcessorFaults s hs
      cases hfault.symm.trans h
  | lockCpuid => cases (lockCpuidRaisesUd s).symm.trans h

/-- Settles O8: of the two causes of a fault, the LOCK form is another instruction. -/
theorem cpuidFaultsOnlyIfUnsupported : Obligations.CpuidFaultsOnlyIfUnsupported := by
  refine fun s => ⟨fun f hf => ?fault, exec_ne_refused .cpuid s⟩
  case fault =>
    obtain ⟨hud, hcause⟩ := exec_fault_inv hf
    have hnotLock : Instr.cpuid ≠ .lockCpuid := by decide
    exact ⟨hud, hcause.resolve_left hnotLock⟩

end Sys2Proof.Proofs
end
